-- ==== Sys2Proof/Word.lean ====
section
/-!
DEFINITION. The numbers of the 4160: bytes and words as they travel on the links, the index ranges of
00_scope.md ("Numbers"), and the saturating addition of R1.
-/
namespace Sys2Proof

/-- A byte of a frame, a token or the spool store. -/
abbrev Byte := BitVec 8
/-- A 16-bit field. -/
abbrev Half := BitVec 16
/-- A 32-bit field. -/
abbrev Word := BitVec 32
/-- Press-room time in milliseconds, wrapping modulo 2^32 (R2). -/
abbrev Time := BitVec 32

/-- Job slots 0–255. -/
abbrev Slot := Fin 256
/-- Lanes 0–15. -/
abbrev LaneId := Fin 16
/-- Pools 0–7. -/
abbrev PoolId := Fin 8
/-- Zones 0–3. -/
abbrev ZoneId := Fin 4
/-- Accounts 0–127. -/
abbrev AccountId := Fin 128
/-- Classes 0–63. -/
abbrev ClassId := Fin 64
/-- Media codes 0–15, the rows of the TARIFF table. -/
abbrev MediaId := Fin 16

/-- The largest 32-bit count. -/
abbrev max32 : Nat := 4294967295
/-- The largest 48-bit count (R119). -/
abbrev max48 : Nat := 281474976710655

/-- R1: a counter saturates at its maximum. -/
def satAdd (max a b : Nat) : Nat := if max < a + b then max else a + b

/-- 00_scope.md: clamp(x, lo, hi). -/
def clamp (x lo hi : Nat) : Nat := if x < lo then lo else if hi < x then hi else x

/-- R2: the time from `start` to `now`, as a difference modulo 2^32. -/
def since (now start : Time) : Nat := (now - start).toNat

/-- A byte that names a number below `n`, or none. -/
def finOf (n : Nat) (x : Nat) : Option (Fin n) := if h : x < n then some ⟨x, h⟩ else none

/-- A number held at the top of `0..n`. -/
def finClamp (n : Nat) (x : Nat) : Fin (n + 1) := ⟨min x n, by omega⟩

end Sys2Proof
end

