-- ==== Sys2Proof/Syntax.lean ====
section
/-!
DEFINITION. The commands of the 4160: one constructor for each row of spec/opcode_table.json, with the operands the
rules give it. Operands are as received, before any clamping (R158).
-/
namespace Sys2Proof

/-- R4: a handle is a slot index with an 8-bit generation. -/
structure Handle where
  slot : Slot
  gen : Byte
  deriving DecidableEq, Repr

/-- R163, R172: what a SET of the SYSTEM row carries; the status fields are passed over. Each flag is the bit
written: 0 clears the sticky flag, 1 leaves it. -/
structure SystemWrite where
  high : Word
  low : Word
  office : Byte
  retentionLost : Bool
  alertOverflow : Bool
  responseOverflow : Bool
  deriving DecidableEq, Repr

/-- R48, R172: what a SET of a CLASS row carries. -/
structure ClassWrite where
  pool : Byte
  priority : Byte
  holdOnOpen : Bool
  threshold : Byte
  deriving DecidableEq, Repr

/-- R50, R172: what a SET of a POOL row carries; the status fields are passed over. -/
structure PoolWrite where
  threshold : Byte
  fallback : Byte
  deriving DecidableEq, Repr

/-- R70, R172: what a SET of a LANE CONFIG row carries; enabled is passed over. -/
structure LaneWrite where
  pool : Byte
  zone : Byte
  stallCeiling : Half
  stallFloor : Half
  recoveryDelay : Byte
  deriving DecidableEq, Repr

/-- R113, R172: what a SET of a TARIFF row carries. -/
structure TariffWrite where
  w0 : Half
  w1 : Half
  w2 : Half
  duplex : Byte
  deriving DecidableEq, Repr

/-- R121, R169: what a SET of an ACCOUNT row carries; an absent budget is a presence byte of 0. -/
structure AccountWrite where
  enabled : Bool
  factor : Byte
  budget : Option Word
  deriving DecidableEq, Repr

/-- R151, R172: what a SET of a ZONE row carries; the status fields are passed over. -/
structure ZoneWrite where
  urgentOn : Byte
  urgentPeriod : Byte
  noticeOn : Byte
  noticePeriod : Byte
  escalation : Byte
  deriving DecidableEq, Repr

/-- R162: the table of a SET that is refused whatever its rows: no table (the code as received), or one of the
four read-only tables. -/
inductive SetTarget where
  | unknown (code : Byte)
  | laneState
  | laneCounters
  | job
  | alert
  deriving DecidableEq, Repr

/-- R86, R157: the two forms of the UNKNOWN_KIND row: a frame of an unknown kind, or a LANE CONTROL whose action
is none of the six. -/
inductive UnknownForm where
  | frame (kind : Byte)
  | laneAction (lane action : Byte)
  deriving DecidableEq, Repr

/-- The 56 commands of spec/opcode_table.json. -/
inductive Instr where
  /-- OPEN, R9, R10. -/
  | openJob (tag : Word) (cls account : Byte)
  /-- DATA, R29 to R31. -/
  | data (h : Handle) (seq : Half) (payload : List Byte)
  /-- MARK, R29, R30, R32. -/
  | mark (h : Handle) (seq : Half) (media sides colour : Byte)
  /-- CLOSE, R12, R13. -/
  | close (h : Handle) (seq : Half)
  /-- CANCEL, R15. -/
  | cancel (h : Handle)
  /-- RELEASE, R17. -/
  | release (h : Handle)
  /-- SET_SYSTEM, R162, R163. -/
  | setSystem (first count : Byte) (rows : List SystemWrite)
  /-- SET_CLASS, R48. -/
  | setClass (first count : Byte) (rows : List ClassWrite)
  /-- SET_POOL, R50, R51. -/
  | setPool (first count : Byte) (rows : List PoolWrite)
  /-- SET_LANE_CONFIG, R53, R70. -/
  | setLaneConfig (first count : Byte) (rows : List LaneWrite)
  /-- SET_TARIFF, R113. -/
  | setTariff (first count : Byte) (rows : List TariffWrite)
  /-- SET_ACCOUNT, R121, R122. -/
  | setAccount (first count : Byte) (rows : List AccountWrite)
  /-- SET_ZONE, R151, R154. -/
  | setZone (first count : Byte) (rows : List ZoneWrite)
  /-- SET, R162: refused. -/
  | setOther (table : SetTarget) (first count : Byte)
  /-- GET, R161. -/
  | get (table first count : Byte)
  /-- METER_READ, R131. -/
  | meterRead (first count : Byte) (zero : Bool)
  /-- ACK_ALERT, R148. -/
  | ackAlert (sourceType sourceNumber kind : Byte)
  /-- ACK_ZONE, R149. -/
  | ackZone (zone : Byte)
  /-- ENABLE, R86. -/
  | enable (lane : Byte)
  /-- DISABLE, R87. -/
  | disable (lane : Byte)
  /-- INIT, R88. -/
  | init (lane : Byte)
  /-- RESUME, R89, R105. -/
  | resume (lane : Byte)
  /-- COMMAND, R84. -/
  | command (lane code : Byte)
  /-- CANCEL_COMMAND, R85. -/
  | cancelCommand (lane : Byte)
  /-- RESET, R168. -/
  | reset
  /-- UNKNOWN_KIND, R86, R157. -/
  | unknownKind (form : UnknownForm)
  /-- LINK_ERROR, R156. -/
  | linkError
  /-- UPLINK_FRAME_START, R164, R165. -/
  | uplinkFrameStart
  /-- SERIALISE_ROW, R133, R160. -/
  | serialiseRow
  /-- CREDIT_HANDOVER, R42. -/
  | creditHandover
  /-- RESPONSE_HANDOVER, R159. -/
  | responseHandover
  /-- ALERT_HANDOVER, R146. -/
  | alertHandover
  /-- REPLY_HANDOVER, R135, R160. -/
  | replyHandover
  /-- JOB_END_HANDOVER, R22. -/
  | jobEndHandover
  /-- LINK_DOWN, R166. -/
  | linkDown
  /-- LINK_UP, R167. -/
  | linkUp
  /-- SUPPLY_DROP, R137. -/
  | supplyDrop
  /-- SUPPLY_RISE, R137, R138. -/
  | supplyRise
  /-- RESET_PIN, R136, R138. -/
  | resetPin
  /-- BACKUP_SUPPLY_LOSS, R137. -/
  | backupSupplyLoss
  /-- STATUS, R93. -/
  | status (lane : LaneId) (fields : Byte)
  /-- PRINTER_CREDIT, R69. -/
  | printerCredit (lane : LaneId) (count : Byte)
  /-- SHEET_OUT, R109, R110. -/
  | sheetOut (lane : LaneId)
  /-- TOKEN_DISCARD, R171. -/
  | tokenDiscard (lane : LaneId)
  /-- POLL_TIMER_EXPIRY, R95. -/
  | pollTimerExpiry (lane : LaneId)
  /-- POLL_SEND, R96. -/
  | pollSend (lane : LaneId)
  /-- COMMAND_SEND, R84. -/
  | commandSend (lane : LaneId)
  /-- LANE_READ, R75. -/
  | laneRead (lane : LaneId)
  /-- JOB_STREAM_TOKEN_TAKEN, R68. -/
  | jobStreamTokenTaken (lane : LaneId)
  /-- LANE_LOSS, R97. -/
  | laneLoss (lane : LaneId)
  /-- STALL_EXPIRY, R107. -/
  | stallExpiry (lane : LaneId)
  /-- RECOVERY_TIMER_EXPIRY, R104. -/
  | recoveryTimerExpiry (lane : LaneId)
  /-- BEACON_PERIOD_END, R153, R154. -/
  | beaconPeriodEnd (zone : ZoneId)
  /-- BEACON_ON_END, R153. -/
  | beaconOnEnd (zone : ZoneId)
  /-- ZONE_ESCALATE, R154. -/
  | zoneEscalate (zone : ZoneId)
  /-- TIME_TICK, R2. -/
  | timeTick
  deriving DecidableEq, Repr

end Sys2Proof
end

