-- ==== Sys2Proof/WellFormed.lean ====
section
/-!
DEFINITION. Which commands can arrive as they stand: the length checks of R156 on the frames whose operands are lists,
the codes of R86, R157 and R162 for the two refused rows. Every other bound is in the operands' types.
-/
namespace Sys2Proof

/-- R172: the tables of GET and SET, in the order of their table byte. -/
inductive Table where
  | system | cls | pool | laneConfig | laneState | laneCounters | tariff | account | job | alert | zone
  deriving DecidableEq, Repr

/-- R172: the table a table byte names. -/
def Table.ofCode (code : Byte) : Option Table :=
  match code.toNat with
  | 0 => some .system
  | 1 => some .cls
  | 2 => some .pool
  | 3 => some .laneConfig
  | 4 => some .laneState
  | 5 => some .laneCounters
  | 6 => some .tariff
  | 7 => some .account
  | 8 => some .job
  | 9 => some .alert
  | 10 => some .zone
  | _ => none

/-- R172: a table's byte. -/
def Table.code : Table → Byte
  | .system => 0
  | .cls => 1
  | .pool => 2
  | .laneConfig => 3
  | .laneState => 4
  | .laneCounters => 5
  | .tariff => 6
  | .account => 7
  | .job => 8
  | .alert => 9
  | .zone => 10

/-- Section 9.5: the number of rows of each table. -/
def Table.rows : Table → Nat
  | .system => 1
  | .cls => 64
  | .pool => 8
  | .laneConfig => 16
  | .laneState => 16
  | .laneCounters => 16
  | .tariff => 16
  | .account => 128
  | .job => 256
  | .alert => 48
  | .zone => 4

/-- R172: the bytes of one row of each table. -/
def Table.rowSize : Table → Nat
  | .system => 26
  | .cls => 4
  | .pool => 5
  | .laneConfig => 8
  | .laneState => 30
  | .laneCounters => 26
  | .tariff => 7
  | .account => 7
  | .job => 50
  | .alert => 16
  | .zone => 8

/-- R172: the table byte of a SET that is always refused. -/
def SetTarget.code : SetTarget → Byte
  | .unknown c => c
  | .laneState => Table.laneState.code
  | .laneCounters => Table.laneCounters.code
  | .job => Table.job.code
  | .alert => Table.alert.code

/-- R156, R170: a SET of `count` rows whose body holds `carried` rows of `size` bytes fits its length. -/
def setFits (size : Nat) (count : Byte) (carried : Nat) : Bool :=
  carried == count.toNat && decide (3 + count.toNat * size ≤ 4096)

/-- R156, R170: a SET frame of a refused table passes the length check (one that names no table passes with any
body the kind's maximum admits). -/
def SetTarget.fits (t : SetTarget) (count : Byte) : Bool :=
  match t with
  | .unknown _ => true
  | .laneState => setFits Table.laneState.rowSize count count.toNat
  | .laneCounters => setFits Table.laneCounters.rowSize count count.toNat
  | .job => setFits Table.job.rowSize count count.toNat
  | .alert => setFits Table.alert.rowSize count count.toNat

/-- R31, R156: a DATA frame carries 1–1,024 payload bytes. -/
def payloadFits (payload : List Byte) : Bool := decide (1 ≤ payload.length ∧ payload.length ≤ 1024)

/-- R170: the kind codes of the thirteen frames the part takes; any other is unknown to it (log entry 48, DEDUCED). -/
def knownKinds : List Byte :=
  [0x01, 0x02, 0x03, 0x04, 0x05, 0x06, 0x10, 0x11, 0x12, 0x20, 0x21, 0x30, 0x3F]

/-- The command can arrive as it stands. -/
def Instr.wellFormed : Instr → Bool
  | .data _ _ payload => payloadFits payload
  | .setSystem _ count rows => setFits Table.system.rowSize count rows.length
  | .setClass _ count rows => setFits Table.cls.rowSize count rows.length
  | .setPool _ count rows => setFits Table.pool.rowSize count rows.length
  | .setLaneConfig _ count rows => setFits Table.laneConfig.rowSize count rows.length
  | .setTariff _ count rows => setFits Table.tariff.rowSize count rows.length
  | .setAccount _ count rows => setFits Table.account.rowSize count rows.length
  | .setZone _ count rows => setFits Table.zone.rowSize count rows.length
  | .setOther (.unknown code) _ _ => Table.ofCode code == none
  | .setOther t _ count => t.fits count
  | .unknownKind (.frame kind) => !knownKinds.contains kind
  | .unknownKind (.laneAction _ action) => decide (5 < action.toNat)
  | .openJob .. | .mark .. | .close .. | .cancel .. | .release .. | .get .. | .meterRead .. | .ackAlert ..
  | .ackZone .. | .enable .. | .disable .. | .init .. | .resume .. | .command .. | .cancelCommand .. | .reset
  | .linkError | .uplinkFrameStart | .serialiseRow | .creditHandover | .responseHandover | .alertHandover
  | .replyHandover | .jobEndHandover | .linkDown | .linkUp | .supplyDrop | .supplyRise | .resetPin
  | .backupSupplyLoss | .status .. | .printerCredit .. | .sheetOut .. | .tokenDiscard .. | .pollTimerExpiry ..
  | .pollSend .. | .commandSend .. | .laneRead .. | .jobStreamTokenTaken .. | .laneLoss .. | .stallExpiry ..
  | .recoveryTimerExpiry .. | .beaconPeriodEnd .. | .beaconOnEnd .. | .zoneEscalate .. | .timeTick => true

end Sys2Proof
end

