-- ==== Sys2Proof/Decode.lean ====
section
/-!
DEFINITION. From bytes to commands: the CRC and framing of R156 and R169, the frame layouts of R170, the lane tokens of
section 10.3 (R171), the row layouts a SET carries (R172), and the encoder written from the same tables. The opcode
table gives no row any bits, so no table word spells a command.
-/
namespace Sys2Proof

/-! ### The check -/

/-- R169: one bit fed to the CRC, polynomial x^16 + x^12 + x^5 + 1. -/
def crcBit (crc : Half) (bit : Bool) : Half :=
  if (crc.getLsbD 15) ^^ bit then (crc <<< 1) ^^^ 0x1021 else crc <<< 1

/-- R169: one byte fed to the CRC, most significant bit first. -/
def crcByte (crc : Half) (b : Byte) : Half :=
  [7, 6, 5, 4, 3, 2, 1, 0].foldl (fun c i => crcBit c (b.getLsbD i)) crc

/-- R169: the check of a string of bytes; it starts at 0xFFFF and has no final inversion. -/
def crc16 (bytes : List Byte) : Half := bytes.foldl crcByte 0xFFFF

/-- R169: the most and the least significant byte of a 16-bit field. -/
def halfBytes (h : Half) : List Byte := [h.extractLsb' 8 8, h.extractLsb' 0 8]

/-- R169: the four bytes of a 32-bit field, most significant first. -/
def wordBytes (w : Word) : List Byte :=
  [w.extractLsb' 24 8, w.extractLsb' 16 8, w.extractLsb' 8 8, w.extractLsb' 0 8]

/-- R169: a 16-bit field from its bytes. -/
def halfOf (b1 b0 : Byte) : Half := b1 ++ b0

/-- R169: a 32-bit field from its bytes. -/
def wordOf (b3 b2 b1 b0 : Byte) : Word := b3 ++ b2 ++ b1 ++ b0

/-- R169: a frame or a token: the kind, the 2-byte length, the body and the check. -/
def framed (kind : Byte) (body : List Byte) : List Byte :=
  let head := kind :: (halfBytes (BitVec.ofNat 16 body.length) ++ body)
  head ++ halfBytes (crc16 head)

/-- R156, R169, R171: the kind and the body of bytes whose length and check agree. -/
def unframed (bytes : List Byte) : Option (Byte × List Byte) :=
  match bytes with
  | kind :: l1 :: l0 :: rest =>
    let n := (halfOf l1 l0).toNat
    if rest.length = n + 2 ∧ rest.drop n = halfBytes (crc16 (kind :: l1 :: l0 :: rest.take n)) then
      some (kind, rest.take n)
    else none
  | _ => none

/-! ### Rows of a SET -/

/-- R169: a received yes-or-no byte. -/
def yes (b : Byte) : Bool := b != 0

/-- R172: a sent yes-or-no byte. -/
def yesByte (b : Bool) : Byte := if b then 1 else 0

/-- R172: the SYSTEM row's sticky flags byte. -/
def SystemWrite.flags (w : SystemWrite) : Byte :=
  (if w.retentionLost then 1 else 0) ||| (if w.alertOverflow then 2 else 0) ||| (if w.responseOverflow then 4 else 0)

/-- R172: a SYSTEM row from its 26 bytes; the status fields are passed over. -/
def SystemWrite.parse : List Byte → Option SystemWrite
  | h3 :: h2 :: h1 :: h0 :: l3 :: l2 :: l1 :: l0 :: office :: flags :: _ =>
    some { high := wordOf h3 h2 h1 h0, low := wordOf l3 l2 l1 l0, office := office,
           retentionLost := flags.getLsbD 0, alertOverflow := flags.getLsbD 1, responseOverflow := flags.getLsbD 2 }
  | _ => none

/-- R172: a SYSTEM row's 26 bytes, its status fields 0. -/
def SystemWrite.bytes (w : SystemWrite) : List Byte :=
  wordBytes w.high ++ wordBytes w.low ++ [w.office, w.flags] ++ List.replicate 16 0

/-- R172: a CLASS row from its 4 bytes. -/
def ClassWrite.parse : List Byte → Option ClassWrite
  | [p, q, h, t] => some { pool := p, priority := q, holdOnOpen := yes h, threshold := t }
  | _ => none

/-- R172: a CLASS row's 4 bytes. -/
def ClassWrite.bytes (w : ClassWrite) : List Byte := [w.pool, w.priority, yesByte w.holdOnOpen, w.threshold]

/-- R172: a POOL row from its 5 bytes; the status fields are passed over. -/
def PoolWrite.parse : List Byte → Option PoolWrite
  | [t, f, _, _, _] => some { threshold := t, fallback := f }
  | _ => none

/-- R172: a POOL row's 5 bytes, its status fields 0. -/
def PoolWrite.bytes (w : PoolWrite) : List Byte := [w.threshold, w.fallback, 0, 0, 0]

/-- R172: a LANE CONFIG row from its 8 bytes; enabled is passed over. -/
def LaneWrite.parse : List Byte → Option LaneWrite
  | [_, p, z, c1, c0, f1, f0, d] =>
    some { pool := p, zone := z, stallCeiling := halfOf c1 c0, stallFloor := halfOf f1 f0, recoveryDelay := d }
  | _ => none

/-- R172: a LANE CONFIG row's 8 bytes, enabled 0. -/
def LaneWrite.bytes (w : LaneWrite) : List Byte :=
  [0, w.pool, w.zone] ++ halfBytes w.stallCeiling ++ halfBytes w.stallFloor ++ [w.recoveryDelay]

/-- R172: a TARIFF row from its 7 bytes. -/
def TariffWrite.parse : List Byte → Option TariffWrite
  | [a1, a0, b1, b0, c1, c0, d] => some { w0 := halfOf a1 a0, w1 := halfOf b1 b0, w2 := halfOf c1 c0, duplex := d }
  | _ => none

/-- R172: a TARIFF row's 7 bytes. -/
def TariffWrite.bytes (w : TariffWrite) : List Byte :=
  halfBytes w.w0 ++ halfBytes w.w1 ++ halfBytes w.w2 ++ [w.duplex]

/-- R169, R172: an ACCOUNT row from its 7 bytes; a presence byte of 0 passes over the value. -/
def AccountWrite.parse : List Byte → Option AccountWrite
  | [e, f, p, v3, v2, v1, v0] =>
    some { enabled := yes e, factor := f, budget := if yes p then some (wordOf v3 v2 v1 v0) else none }
  | _ => none

/-- R169, R172: an ACCOUNT row's 7 bytes. -/
def AccountWrite.bytes (w : AccountWrite) : List Byte :=
  [yesByte w.enabled, w.factor] ++
    match w.budget with
    | some v => 1 :: wordBytes v
    | none => [0, 0, 0, 0, 0]

/-- R172: a ZONE row from its 8 bytes; the status fields are passed over. -/
def ZoneWrite.parse : List Byte → Option ZoneWrite
  | [a, b, c, d, e, _, _, _] =>
    some { urgentOn := a, urgentPeriod := b, noticeOn := c, noticePeriod := d, escalation := e }
  | _ => none

/-- R172: a ZONE row's 8 bytes, its status fields 0. -/
def ZoneWrite.bytes (w : ZoneWrite) : List Byte :=
  [w.urgentOn, w.urgentPeriod, w.noticeOn, w.noticePeriod, w.escalation, 0, 0, 0]

/-- R162: `count` rows of `size` bytes cut from the body of a SET. -/
def cutRows {α : Type} (parse : List Byte → Option α) (size : Nat) : Nat → List Byte → Option (List α)
  | 0, [] => some []
  | 0, _ :: _ => none
  | n + 1, bytes =>
    match parse (bytes.take size), cutRows parse size n (bytes.drop size) with
    | some row, some rows => some (row :: rows)
    | _, _ => none

/-- R156, R172: the command of a SET body: a table, a first row, a count and the rows' bytes. A body that does not fit
its table's layout is a link error. -/
def decodeSet (table first count : Byte) (rows : List Byte) : Instr :=
  match Table.ofCode table with
  | none => .setOther (.unknown table) first count
  | some t =>
    if rows.length = count.toNat * t.rowSize ∧ 3 + count.toNat * t.rowSize ≤ 4096 then
      match t with
      | .system => ((cutRows SystemWrite.parse 26 count.toNat rows).map (Instr.setSystem first count)).getD .linkError
      | .cls => ((cutRows ClassWrite.parse 4 count.toNat rows).map (Instr.setClass first count)).getD .linkError
      | .pool => ((cutRows PoolWrite.parse 5 count.toNat rows).map (Instr.setPool first count)).getD .linkError
      | .laneConfig =>
        ((cutRows LaneWrite.parse 8 count.toNat rows).map (Instr.setLaneConfig first count)).getD .linkError
      | .tariff => ((cutRows TariffWrite.parse 7 count.toNat rows).map (Instr.setTariff first count)).getD .linkError
      | .account => ((cutRows AccountWrite.parse 7 count.toNat rows).map (Instr.setAccount first count)).getD .linkError
      | .zone => ((cutRows ZoneWrite.parse 8 count.toNat rows).map (Instr.setZone first count)).getD .linkError
      | .laneState => .setOther .laneState first count
      | .laneCounters => .setOther .laneCounters first count
      | .job => .setOther .job first count
      | .alert => .setOther .alert first count
    else .linkError

/-! ### Frames -/

/-- R169: a handle from its two bytes. -/
def handleOfBytes (slot gen : Byte) : Handle := { slot := slot.toFin, gen := gen }

/-- R169: a handle's two bytes. -/
def Handle.bytes (h : Handle) : List Byte := [BitVec.ofFin h.slot, h.gen]

/-- Section 10.2: the command of a LANE CONTROL body. -/
def decodeLaneControl (lane action code : Byte) : Instr :=
  match action.toNat with
  | 0 => .enable lane
  | 1 => .disable lane
  | 2 => .init lane
  | 3 => .resume lane
  | 4 => .command lane code
  | 5 => .cancelCommand lane
  | _ => .unknownKind (.laneAction lane action)

/-- R31, R156, R170: the command of a DATA body; a payload count that disagrees with the bytes carried, or is out of
1–1,024, is a link error. -/
def decodeData : List Byte → Instr
  | s :: g :: q1 :: q0 :: n1 :: n0 :: payload =>
    if payload.length = (halfOf n1 n0).toNat ∧ payloadFits payload = true then
      .data (handleOfBytes s g) (halfOf q1 q0) payload
    else .linkError
  | _ => .linkError

/-- R156, R157, R170: the command of a frame of a kind and a body. A known kind whose body does not fit is a link error.
Every code but those of the thirteen kinds that the part takes is an unknown kind, a part-to-server code 0x81 to 0x86
among them (log entry 48, DEDUCED). -/
def decodeBody (kind : Byte) (body : List Byte) : Instr :=
  match kind.toNat with
  | 0x01 => match body with | [t3, t2, t1, t0, c, a] => .openJob (wordOf t3 t2 t1 t0) c a | _ => .linkError
  | 0x02 => decodeData body
  | 0x03 =>
    match body with
    | [s, g, q1, q0, m, d, c] => .mark (handleOfBytes s g) (halfOf q1 q0) m d c
    | _ => .linkError
  | 0x04 => match body with | [s, g, q1, q0] => .close (handleOfBytes s g) (halfOf q1 q0) | _ => .linkError
  | 0x05 => match body with | [s, g] => .cancel (handleOfBytes s g) | _ => .linkError
  | 0x06 => match body with | [s, g] => .release (handleOfBytes s g) | _ => .linkError
  | 0x10 =>
    match body with
    | t :: f :: n :: rows => if body.length ≤ 4096 then decodeSet t f n rows else .linkError
    | _ => .linkError
  | 0x11 => match body with | [t, f, n] => .get t f n | _ => .linkError
  | 0x12 => match body with | [f, n, z] => .meterRead f n (yes z) | _ => .linkError
  | 0x20 => match body with | [t, n, k] => .ackAlert t n k | _ => .linkError
  | 0x21 => match body with | [z] => .ackZone z | _ => .linkError
  | 0x30 => match body with | [l, a, c] => decodeLaneControl l a c | _ => .linkError
  | 0x3F => match body with | [] => .reset | _ => .linkError
  | _ => .unknownKind (.frame kind)

/-- R156: the command that a frame arriving on the spool link is; a frame failing its check is a link error. -/
def decodeFrame (bytes : List Byte) : Instr :=
  match unframed bytes with
  | some (kind, body) => decodeBody kind body
  | none => .linkError

/-- R171: the command that a token arriving from the printer of a lane is. -/
def decodeToken (lane : LaneId) (bytes : List Byte) : Instr :=
  match unframed bytes with
  | some (kind, body) =>
    match kind.toNat with
    | 0x41 => match body with | [b] => .status lane b | _ => .tokenDiscard lane
    | 0x42 => match body with | [n] => .printerCredit lane n | _ => .tokenDiscard lane
    | 0x43 => match body with | [] => .sheetOut lane | _ => .tokenDiscard lane
    | _ => .tokenDiscard lane
  | none => .tokenDiscard lane

/-! ### The encoder -/

/-- R172: the bytes of the rows of a SET. -/
def rowsBytes {α : Type} (bytes : α → List Byte) (rows : List α) : List Byte := (rows.map bytes).flatten

/-- R170: the kind and the body of the frame of a command that the server sends; none for the commands that are no
frame. -/
def encodeBody : Instr → Option (Byte × List Byte)
  | .openJob tag c a => some (0x01, wordBytes tag ++ [c, a])
  | .data h q payload => some (0x02, h.bytes ++ halfBytes q ++ halfBytes (BitVec.ofNat 16 payload.length) ++ payload)
  | .mark h q m d c => some (0x03, h.bytes ++ halfBytes q ++ [m, d, c])
  | .close h q => some (0x04, h.bytes ++ halfBytes q)
  | .cancel h => some (0x05, h.bytes)
  | .release h => some (0x06, h.bytes)
  | .setSystem f n rows => some (0x10, [Table.system.code, f, n] ++ rowsBytes SystemWrite.bytes rows)
  | .setClass f n rows => some (0x10, [Table.cls.code, f, n] ++ rowsBytes ClassWrite.bytes rows)
  | .setPool f n rows => some (0x10, [Table.pool.code, f, n] ++ rowsBytes PoolWrite.bytes rows)
  | .setLaneConfig f n rows => some (0x10, [Table.laneConfig.code, f, n] ++ rowsBytes LaneWrite.bytes rows)
  | .setTariff f n rows => some (0x10, [Table.tariff.code, f, n] ++ rowsBytes TariffWrite.bytes rows)
  | .setAccount f n rows => some (0x10, [Table.account.code, f, n] ++ rowsBytes AccountWrite.bytes rows)
  | .setZone f n rows => some (0x10, [Table.zone.code, f, n] ++ rowsBytes ZoneWrite.bytes rows)
  | .setOther t f n =>
    some (0x10, [t.code, f, n] ++ List.replicate
      (match t with
        | .unknown _ => 0
        | .laneState => n.toNat * 30
        | .laneCounters => n.toNat * 26
        | .job => n.toNat * 50
        | .alert => n.toNat * 16) 0)
  | .get t f n => some (0x11, [t, f, n])
  | .meterRead f n z => some (0x12, [f, n, yesByte z])
  | .ackAlert t n k => some (0x20, [t, n, k])
  | .ackZone z => some (0x21, [z])
  | .enable l => some (0x30, [l, 0, 0])
  | .disable l => some (0x30, [l, 1, 0])
  | .init l => some (0x30, [l, 2, 0])
  | .resume l => some (0x30, [l, 3, 0])
  | .command l c => some (0x30, [l, 4, c])
  | .cancelCommand l => some (0x30, [l, 5, 0])
  | .unknownKind (.laneAction l a) => some (0x30, [l, a, 0])
  | .unknownKind (.frame k) => some (k, [])
  | .reset => some (0x3F, [])
  | .linkError | .uplinkFrameStart | .serialiseRow | .creditHandover | .responseHandover | .alertHandover
  | .replyHandover | .jobEndHandover | .linkDown | .linkUp | .supplyDrop | .supplyRise | .resetPin
  | .backupSupplyLoss | .status .. | .printerCredit .. | .sheetOut .. | .tokenDiscard .. | .pollTimerExpiry ..
  | .pollSend .. | .commandSend .. | .laneRead .. | .jobStreamTokenTaken .. | .laneLoss .. | .stallExpiry ..
  | .recoveryTimerExpiry .. | .beaconPeriodEnd .. | .beaconOnEnd .. | .zoneEscalate .. | .timeTick => none

/-- R169, R170: the bytes of the frame of a command that the server sends. -/
def encodeFrame (i : Instr) : Option (List Byte) := (encodeBody i).map (fun p => framed p.1 p.2)

/-- Section 10.3: the bytes of the token of a command that a printer sends. -/
def encodeToken : Instr → Option (LaneId × List Byte)
  | .status l b => some (l, framed 0x41 [b])
  | .printerCredit l n => some (l, framed 0x42 [n])
  | .sheetOut l => some (l, framed 0x43 [])
  | _ => none

/-! ### The opcode table's words -/

/-- The command a table word spells: spec/opcode_table.json gives no row any bits, so there is none. -/
def decodeTableWord (_nbits _w : Nat) : Option Instr := none

end Sys2Proof
end

