-- ==== Sys2Proof/Config.lean ====
section
/-!
DEFINITION. The figures the manual fixes for the part, and the free values it leaves open (opaque, with no body:
nothing in Lean can evaluate one).
-/
namespace Sys2Proof

/-- R25: bytes of one spool block. -/
abbrev Config.blockSize : Nat := 4096
/-- R25: the block count of each strap setting: 8,192, 16,384, 32,768, 65,536. -/
def Config.blocksOf (straps : Fin 4) : Nat := 8192 * 2 ^ straps.val
/-- R41: the most outstanding credits. -/
abbrev Config.maxCredits : Nat := 64
/-- R41: the least amount granted while credits are outstanding. -/
abbrev Config.grantStep : Nat := 8
/-- R46: the most bytes of one lane read. -/
abbrev Config.readBytes : Nat := 512
/-- R69: the most printer credits. -/
abbrev Config.maxPrinterCredits : Nat := 63
/-- R78: the most entries of an in-flight list. -/
abbrev Config.inFlightPlaces : Nat := 32
/-- R96: the miss count at which a printer is lost. -/
abbrev Config.lostAt : Nat := 3
/-- R132: the most entries of the held-charge list. -/
abbrev Config.heldPlaces : Nat := 8
/-- R142: the most entries of the alert queue. -/
abbrev Config.alertPlaces : Nat := 48
/-- R159: the most entries of the response queue. -/
abbrev Config.responsePlaces : Nat := 16
/-- R160: the most entries of the reply queue. -/
abbrev Config.replyPlaces : Nat := 4
/-- 00_scope.md "Time": milliseconds of one beacon tick. -/
abbrev Config.beaconTick : Nat := 10

/-- FREE VALUE (DESIGN CHOICE, log entry 11): R27 gives a data run's 4-byte head "the item kind and the payload
length" and no layout; byte `i` of the head of a run of `len` payload bytes. -/
opaque Config.runHead (len i : Nat) : Byte

/-- FREE VALUE (DESIGN CHOICE, log entry 11): R27 gives a mark 8 bytes and no layout; byte `i` of a mark of the
given media, sides and colour. -/
opaque Config.markByte (media sides colour i : Nat) : Byte

/-- FREE VALUE (DESIGN CHOICE, log entry 15): R166 gives no order in which the open jobs fail at a LINK DOWN; the
rank of a slot in choice number `n`. -/
opaque Config.linkLostRank (n : Nat) (slot : Slot) : Nat

/-- FREE VALUE (DESIGN CHOICE, log entry 27): what the 4-byte send position of a LANE STATE row shows for a
position of 2^32 or more. -/
opaque Config.widePosition (pos : Nat) : Word

/-- FREE VALUE (DESIGN CHOICE, log entry 38): what the two handle bytes of a LANE STATE row show while the lane carries
no job (R172 gives the job-present byte and no value for them). -/
opaque Config.absentHandle (i : Nat) : Byte

end Sys2Proof
end

