-- ==== Sys2Proof/Machine/State.lean ====
section
/-!
DEFINITION. The state of the 4160 as plain data, block by block as 00_scope.md lists the blocks, and the state right
after the first power-on reset. INVENTORY.md names the rule behind each field.
-/
namespace Sys2Proof.Machine

/-! ### Jobs (01, 02) -/

/-- R3, R5: the job states, in R3's order. -/
inductive JobState where
  | free | filling | ready | held | printing | done
  deriving DecidableEq, Repr

/-- R3: why a job is HELD. -/
inductive HoldReason where
  | operator | budget
  deriving DecidableEq, Repr

/-- R18: why a job fails. -/
inductive FailReason where
  | sequence | overrun | linkLost
  deriving DecidableEq, Repr

/-- R6: a stop request. -/
inductive StopRequest where
  | cancel
  | fail (reason : FailReason)
  | hold
  | requeue
  deriving DecidableEq, Repr

/-- R3: the outcome of a DONE job. -/
inductive JobOutcome where
  | completed
  | cancelled
  | failed (reason : FailReason)
  deriving DecidableEq, Repr

/-- R36: the restart point's two modes. -/
inductive Restart where
  | following
  | fixed (pos : Nat)
  deriving DecidableEq, Repr

/-- R32: sides 1 or 2. -/
inductive Sides where
  | one | two
  deriving DecidableEq, Repr

/-- R32: colour 0 mono, 1 accent, 2 full. -/
inductive Colour where
  | mono | accent | full
  deriving DecidableEq, Repr

/-- R32: a stored sheet mark. -/
structure Mark where
  media : MediaId
  sides : Sides
  colour : Colour
  deriving DecidableEq, Repr

/-- R27: what an item of job content is; a data run with its payload length, or a sheet mark. -/
inductive ItemBody where
  | run (len : Nat)
  | mark (m : Mark)
  deriving DecidableEq, Repr

/-- R27: an item of job content at its content position. -/
structure Item where
  pos : Nat
  body : ItemBody
  deriving DecidableEq, Repr

/-- R27: an entry of a job's chain. -/
structure ChainEntry where
  block : Nat
  ordinal : Nat
  deriving DecidableEq, Repr

/-- R3: one job record, with the content fields the SPOOL STORE CONTROLLER keeps for it (R27, R36). -/
structure Job where
  gen : Byte
  state : JobState
  tag : Word
  cls : ClassId
  pool : PoolId
  priority : Fin 4
  threshold : Nat
  account : AccountId
  holdReason : Option HoldReason
  stop : Option StopRequest
  isOpen : Bool
  nextSeq : Half
  chain : List ChainEntry
  prologueEnd : Option Nat
  stored : Nat
  nextUnsent : Nat
  inFlight : Nat
  delivered : Nat
  spoiled : Nat
  charge : Nat
  lane : Option LaneId
  split : Bool
  forced : Bool
  truncated : Bool
  readySince : Time
  outcome : Option JobOutcome
  storedEnd : Nat
  restart : Restart
  items : List Item
  deriving DecidableEq, Repr

/-- R22: the record of a FREE slot holds its generation; every other field reads as 0, absent or clear. -/
def Job.freed (gen : Byte) : Job :=
  { gen := gen, state := .free, tag := 0, cls := 0, pool := 0, priority := 0, threshold := 0, account := 0,
    holdReason := none, stop := none, isOpen := false, nextSeq := 0, chain := [], prologueEnd := none, stored := 0,
    nextUnsent := 0, inFlight := 0, delivered := 0, spoiled := 0, charge := 0, lane := none, split := false,
    forced := false, truncated := false, readySince := 0, outcome := none, storedEnd := 0, restart := .following,
    items := [] }

/-- R3, R8: the JOB TABLE. -/
structure JobTable where
  slots : Vector Job 256
  openList : List Slot
  endList : List Slot
  deriving DecidableEq, Repr

/-! ### Intake and spool store (02) -/

/-- R39: the intake state. -/
inductive IntakeState where
  | run | stop
  deriving DecidableEq, Repr

/-- R39 to R43: the INTAKE UNIT. -/
structure IntakeUnit where
  outstanding : Nat
  waiting : Option Nat
  kept : Nat
  state : IntakeState
  low : Nat
  high : Nat
  deriving DecidableEq, Repr

/-- The spool store's bytes: (address, byte) pairs with addresses strictly rising; an unlisted byte has no value
(log entry 10). -/
abbrev Memory := List Host.Cell

/-- R25, R26: the SPOOL STORE CONTROLLER. -/
structure SpoolStore where
  blockCount : Nat
  free : List Nat
  dram : Memory
  deriving DecidableEq, Repr

/-! ### Classes and pools (03) -/

/-- R48: a CLASS row. -/
structure ClassRow where
  pool : Option PoolId
  priority : Fin 4
  holdOnOpen : Bool
  threshold : Option Nat
  deriving DecidableEq, Repr

/-- R50: the stored part of a POOL row. -/
structure PoolRow where
  threshold : Nat
  fallback : Option PoolId
  rotor : LaneId
  deriving DecidableEq, Repr

/-! ### Lanes (04, 05) -/

/-- R72: the nine lane states, in R72's order. -/
inductive LaneState where
  | offline | down | idle | sending | starved | paused | draining | jammed | recovering
  deriving DecidableEq, Repr

/-- R73: the state a PAUSED lane returns to. -/
inductive Resume where
  | sending | starved
  deriving DecidableEq, Repr

/-- R95, R103, R106: a running timer: when it was started and after how many milliseconds it expires. -/
structure Timer where
  start : Time
  length : Nat
  deriving DecidableEq, Repr

/-- R78: an entry of a lane's in-flight list. -/
structure InFlight where
  job : Handle
  sheet : Nat
  charge : Nat
  markPos : Nat
  account : AccountId
  deriving DecidableEq, Repr

/-- R68: the tokens that wait in a lane's job stream. -/
inductive StreamToken where
  | jobBegin (tag : Word) (resume : Bool)
  | jobFinish
  deriving DecidableEq, Repr

/-- R66: the tokens a lane sends to its printer. -/
inductive LaneToken where
  | poll
  | jobBegin (tag : Word) (resume : Bool)
  | data (bytes : List Byte)
  | sheetBegin (tag : Half) (sheet : Nat) (mark : Mark)
  | jobFinish
  | command (code : Byte)
  deriving DecidableEq, Repr

/-- R70, R73, R92, R95, R96, R106, R108: one LANE ENGINE with its LANE CONFIG row and its Status Monitor. -/
structure Lane where
  enabled : Bool
  pool : Option PoolId
  zone : ZoneId
  stallCeiling : Nat
  stallFloor : Nat
  recoveryDelay : Nat
  state : LaneState
  effPool : Option PoolId
  job : Option Handle
  sendPos : Nat
  prologueDue : Bool
  inSheet : Bool
  resume : Option Resume
  roomWait : Bool
  credits : Nat
  inFlight : List InFlight
  command : Option Byte
  stallCaused : Bool
  stream : List StreamToken
  mirror : Byte
  delta : Byte
  misses : Nat
  pollOut : Bool
  pollDue : Bool
  pollTimer : Option Timer
  stallTimer : Option Timer
  recoveryTimer : Option Timer
  lastSheet : Option Time
  capture : Option Nat
  lastToken : Option LaneToken
  deriving DecidableEq, Repr

/-- R70, R91, R112: a lane after power-on reset and soft reset. -/
def Lane.fresh : Lane :=
  { enabled := false, pool := none, zone := 0, stallCeiling := 20000, stallFloor := 2000, recoveryDelay := 30,
    state := .offline, effPool := none, job := none, sendPos := 0, prologueDue := false, inSheet := false,
    resume := none, roomWait := false, credits := 0, inFlight := [], command := none, stallCaused := false,
    stream := [], mirror := 0, delta := 0, misses := 0, pollOut := false, pollDue := false, pollTimer := none,
    stallTimer := none, recoveryTimer := none, lastSheet := none, capture := none, lastToken := none }

/-! ### Meters (06, 07) -/

/-- R113: a TARIFF row. -/
structure TariffRow where
  w0 : Nat
  w1 : Nat
  w2 : Nat
  duplex : Nat
  deriving DecidableEq, Repr

/-- R121: an ACCOUNT row. -/
structure AccountRow where
  enabled : Bool
  factor : Nat
  budget : Option Nat
  deriving DecidableEq, Repr

/-- R123: the meters of one account. -/
structure AccountMeter where
  total : Nat
  sheets : Nat
  saturated : Bool
  deriving DecidableEq, Repr

/-- R125: the six lane counters. -/
structure LaneCounters where
  delivered : Nat
  spoiled : Nat
  spoiledCharge : Nat
  jams : Nat
  stalls : Nat
  phantoms : Nat
  deriving DecidableEq, Repr

/-- R132: an entry of the held-charge list. -/
structure HeldEntry where
  account : AccountId
  charge : Nat
  sheets : Nat
  deriving DecidableEq, Repr

/-- R123, R125, R137: the retained meter bank. -/
structure MeterBank where
  meters : Vector AccountMeter 128
  counters : Vector LaneCounters 16
  retentionLost : Bool
  deriving DecidableEq, Repr

/-- 06, 07: the METER UNIT. `hold` is the range of the hold in progress (R131). -/
structure MeterUnit where
  tariff : Vector TariffRow 16
  accounts : Vector AccountRow 128
  bank : MeterBank
  reserved : Vector Nat 128
  held : List HeldEntry
  hold : Option (List AccountId)
  deriving DecidableEq, Repr

/-- R138: the bank after a power-on reset that found it not valid. -/
def MeterBank.lost : MeterBank :=
  { meters := .replicate 128 { total := 0, sheets := 0, saturated := false },
    counters := .replicate 16 { delivered := 0, spoiled := 0, spoiledCharge := 0, jams := 0, stalls := 0, phantoms := 0 },
    retentionLost := true }

/-- R138, R139: the METER UNIT after a reset that leaves it `bank`. -/
def MeterUnit.fresh (bank : MeterBank) : MeterUnit :=
  { tariff := .replicate 16 { w0 := 16, w1 := 16, w2 := 16, duplex := 32 },
    accounts := .replicate 128 { enabled := false, factor := 128, budget := none },
    bank := bank, reserved := .replicate 128 0, held := [], hold := none }

/-! ### Alerts and zones (08) -/

/-- R140: the alert kinds, in R140's order. -/
inductive AlertKind where
  | jam | stall | laneDown | paperOut | coverOpen | printerFault | budgetHold | jamCleared | laneUp | paperLow
  | tonerLow | phantomSheet | retentionLost
  deriving DecidableEq, Repr

/-- R140: the alert classes. -/
inductive AlertClass where
  | urgent | notice | info
  deriving DecidableEq, Repr

/-- R140: the source of an alert. -/
inductive AlertSource where
  | lane (l : LaneId)
  | account (a : AccountId)
  | system
  deriving DecidableEq, Repr

/-- R142: an alert entry; its class is its kind's (R140). -/
structure AlertEntry where
  source : AlertSource
  kind : AlertKind
  zone : ZoneId
  first : Time
  last : Time
  occurrences : Nat
  sent : Bool
  inFlight : Bool
  raisedInFlight : Bool
  deriving DecidableEq, Repr

/-- R152: what a zone's beacon shows. -/
inductive Display where
  | urgent | notice | dark
  deriving DecidableEq, Repr

/-- R153: a period of a running beacon generator: when it started, the on and period values it took, and whether
its output is high. -/
structure BeaconPeriod where
  start : Time
  on : Nat
  period : Nat
  high : Bool
  deriving DecidableEq, Repr

/-- R151, R153, R154: a ZONE row with its beacon generator. -/
structure Zone where
  urgentOn : Nat
  urgentPeriod : Nat
  noticeOn : Nat
  noticePeriod : Nat
  escalation : Nat
  display : Display
  escalated : Bool
  count : Nat
  generator : Option BeaconPeriod
  deriving DecidableEq, Repr

/-- R151, R155: a zone after a reset. -/
def Zone.fresh : Zone :=
  { urgentOn := 25, urgentPeriod := 50, noticeOn := 50, noticePeriod := 200, escalation := 0, display := .dark,
    escalated := false, count := 0, generator := none }

/-- 08: the ALERT UNIT; `office` is the office zone of the SYSTEM table (R141). -/
structure AlertUnit where
  queue : List AlertEntry
  overflow : Bool
  office : ZoneId
  zones : Vector Zone 4
  deriving DecidableEq, Repr

/-- R155, R163: the ALERT UNIT after a reset. -/
def AlertUnit.fresh : AlertUnit :=
  { queue := [], overflow := false, office := 0, zones := .replicate 4 .fresh }

/-! ### The LINK PORT (09) -/

/-- R158: the refusal codes, in R158's order. -/
inductive RefusalCode where
  | unknownKind | badTable | badIndex | readOnly | stale | noSlot | noRoute | noAccount | duplicateTag | busy
  | wrongState | tooLate
  deriving DecidableEq, Repr

/-- R158, R170: the item a REFUSE names, as received. -/
inductive RefuseItem where
  | handle (h : Handle)
  | tag (t : Word)
  | tableRow (table first : Byte)
  | laneAction (lane action : Byte)
  | account (first : Byte)
  | alertKey (sourceType sourceNumber kind : Byte)
  | zone (z : Byte)
  | nothing
  deriving DecidableEq, Repr

/-- R159: a frame of the response queue. -/
inductive Response where
  | opened (tag : Word) (h : Handle)
  | refuse (kind : Byte) (code : RefusalCode) (item : RefuseItem)
  deriving DecidableEq, Repr

/-- R160: a REPLY of the reply queue: what the request asked for. -/
inductive Reply where
  | rows (table : Table) (first : Byte) (run : List Nat)
  | meters (first : Byte) (range : List AccountId) (zero : Bool)
  deriving DecidableEq, Repr

/-- R133: a record of a METER READ REPLY as serialised, with its reported values. -/
structure MeterRecord where
  account : AccountId
  total : Nat
  sheets : Nat
  reserved : Nat
  saturated : Bool
  deriving DecidableEq, Repr

/-- R145: what an ALERT frame carries, taken at its start. -/
structure AlertFrame where
  source : AlertSource
  kind : AlertKind
  zone : ZoneId
  first : Time
  last : Time
  occurrences : Nat
  overflow : Bool
  deriving DecidableEq, Repr

/-- R22: what a JOB END frame carries. -/
structure JobEnd where
  tag : Word
  handle : Handle
  outcome : Option JobOutcome
  stored : Nat
  delivered : Nat
  spoiled : Nat
  charge : Nat
  split : Bool
  forced : Bool
  truncated : Bool
  deriving DecidableEq, Repr

/-- R160, R165: a frame on the uplink; a REPLY holds what has been serialised of it so far: the rows of a GET as
bytes, the records of a METER READ, and its coherent flag. -/
inductive UplinkFrame where
  | credit (count : Nat)
  | response (r : Response)
  | alert (a : AlertFrame)
  | getReply (table : Table) (first : Byte) (run : List Nat) (rows : List (List Byte))
  | meterReply (first : Byte) (range : List AccountId) (zero : Bool) (records : List MeterRecord)
      (coherent : Option Bool)
  | jobEnd (e : JobEnd)
  deriving DecidableEq, Repr

/-- R156, R157, R159, R160, R164, R166: the LINK PORT. `tx` is the frame in flight; `sent` is the frame last handed
to the link (the model's output, log entry 31). -/
structure LinkPort where
  lineInSync : Bool
  up : Bool
  errors : Nat
  overflow : Bool
  responses : List Response
  replies : List Reply
  tx : Option UplinkFrame
  sent : Option UplinkFrame
  deriving DecidableEq, Repr

/-- R137: the supply monitor. -/
structure SupplyMonitor where
  halted : Bool
  bankValid : Bool
  deriving DecidableEq, Repr

/-! ### The whole part -/

/-- The 4160, with the queue of waiting commands (log entry 1) and the counter of free choices (log entry 15). -/
structure State where
  pending : List Instr
  time : Time
  supply : SupplyMonitor
  straps : Fin 4
  link : LinkPort
  intake : IntakeUnit
  store : SpoolStore
  jobs : JobTable
  classes : Vector ClassRow 64
  pools : Vector PoolRow 8
  lanes : Vector Lane 16
  meter : MeterUnit
  alerts : AlertUnit
  choices : Nat
  deriving DecidableEq, Repr

/-- Why the 4160 model stops. Each case is one that a law of the manual says does not arise, so each stop is safe. -/
inductive Fault where
  /-- Raised by DATA and MARK when a taken item needs a block and the free-block list is empty. R41: "Every frame
  that R29 takes therefore finds the block it may need." Safe (log entry 13). -/
  | storeExhausted
  /-- Raised by DATA, MARK and LANE_READ when a content position lies in no item of its job, or in no block of its
  job's chain. R37: every position a lane can still ask for lies in its job's chain. Safe (log entry 14). -/
  | contentPositionLost
  /-- Raised by LANE_READ when a byte of the answer was never written. R28: an item is appended whole when its frame
  is taken. Safe (log entry 14). -/
  | spoolByteUnwritten
  deriving DecidableEq, Repr

/-- Why the model declines a command. -/
inductive Refusal where
  /-- Raised by `exec` for a command with no meaning yet: no command of this model. Safe. -/
  | notModelled (mnemonic : String)
  deriving DecidableEq, Repr

/-- The state of every block after a reset with `blocks` spool blocks, the strap setting `straps`, the line in sync as
`inSync` says, and the meter bank left as `bank` (R23, R26, R40, R43, R64, R91, R112, R138, R155, R163), before the first
grant of R43. -/
def State.cleared (blocks : Nat) (straps : Fin 4) (inSync : Bool) (bank : MeterBank) : State :=
  { pending := [],
    time := 0,
    supply := { halted := false, bankValid := true },
    straps := straps,
    link := { lineInSync := inSync, up := inSync, errors := 0, overflow := false, responses := [], replies := [],
              tx := none, sent := none },
    intake := { outstanding := 0, waiting := none, kept := 0, state := .run, low := blocks / 16, high := blocks / 8 },
    store := { blockCount := blocks, free := List.range' 0 blocks, dram := [] },
    jobs := { slots := .replicate 256 (.freed 0), openList := [], endList := [] },
    classes := .replicate 64 { pool := none, priority := 0, holdOnOpen := false, threshold := none },
    pools := .replicate 8 { threshold := 0, fallback := none, rotor := 0 },
    lanes := .replicate 16 .fresh,
    meter := .fresh bank,
    alerts := .fresh,
    choices := 0 }

/-- The machine right after its first power-on reset: strap setting 0 (log entry 3), the line in sync (log entry 4),
the meter bank found not valid, so that RETENTION LOST is set and its INFO alert queued (R137, R138, log entry 2), and
the first grant of 64 made (R43). -/
def State.reset : State :=
  { State.cleared (Config.blocksOf 0) 0 true .lost with
    intake := { outstanding := 64, waiting := some 64, kept := 0, state := .run, low := Config.blocksOf 0 / 16,
                high := Config.blocksOf 0 / 8 },
    alerts := { AlertUnit.fresh with
      queue := [{ source := .system, kind := .retentionLost, zone := 0, first := 0, last := 0, occurrences := 1,
                  sent := false, inFlight := false, raisedInFlight := false }] } }

end Sys2Proof.Machine
end

