-- ==== Sys2Proof/Machine/Flags.lean ====
section
/-!
DEFINITION. The flags of the part: the eight status fields (R92, section 10.3), their edges (R93), the not-ready
condition (R94), the classes of the alert kinds (R140), and the sticky flags' clearing write (R163).
-/
namespace Sys2Proof.Machine

/-- Section 10.3: the place of each status field in the status byte. -/
inductive StatusField where
  | ready | paperLow | paperOut | jam | coverOpen | tonerLow | panelOffline | fault
  deriving DecidableEq, Repr

/-- Section 10.3: READY bit 0 to FAULT bit 7. -/
def StatusField.bit : StatusField → Nat
  | .ready => 0
  | .paperLow => 1
  | .paperOut => 2
  | .jam => 3
  | .coverOpen => 4
  | .tonerLow => 5
  | .panelOffline => 6
  | .fault => 7

/-- The value of a field in a status byte, a mirror or a set of delta flags. -/
def StatusField.of (f : StatusField) (b : Byte) : Bool := b.getLsbD f.bit

/-- R93: the field rose from 0 to 1. -/
def StatusField.rose (f : StatusField) (old new : Byte) : Bool := !f.of old && f.of new

/-- R93: the field fell from 1 to 0. -/
def StatusField.fell (f : StatusField) (old new : Byte) : Bool := f.of old && !f.of new

/-- R92: a field whose reported value differs from the mirror has its delta flag set; the others keep theirs. -/
def deltaAfter (delta mirror reported : Byte) : Byte := delta ||| (mirror ^^^ reported)

/-- R94: JAM is 0 and READY is 0 or one of PAPER OUT, COVER OPEN, PANEL OFFLINE, FAULT is 1. -/
def notReady (mirror : Byte) : Bool :=
  !StatusField.jam.of mirror &&
    (!StatusField.ready.of mirror || StatusField.paperOut.of mirror || StatusField.coverOpen.of mirror ||
      StatusField.panelOffline.of mirror || StatusField.fault.of mirror)

/-- R94, log entry 37: the printer is ready when JAM is 0 and it is not "not ready". -/
def isReady (mirror : Byte) : Bool := !StatusField.jam.of mirror && !notReady mirror

/-- R103: JAM, COVER OPEN and PANEL OFFLINE all read 0. -/
def clearToRecover (mirror : Byte) : Bool :=
  !StatusField.jam.of mirror && !StatusField.coverOpen.of mirror && !StatusField.panelOffline.of mirror

/-- R140: the fixed class of each kind. -/
def AlertKind.cls : AlertKind → AlertClass
  | .jam | .stall | .laneDown => .urgent
  | .paperOut | .coverOpen | .printerFault | .budgetHold => .notice
  | .jamCleared | .laneUp | .paperLow | .tonerLow | .phantomSheet | .retentionLost => .info

/-- R140: URGENT ranks above NOTICE above INFO; a higher class has a lower rank number. -/
def AlertClass.rank : AlertClass → Nat
  | .urgent => 0
  | .notice => 1
  | .info => 2

/-- R142: an entry's class is its kind's. -/
def AlertEntry.cls (e : AlertEntry) : AlertClass := e.kind.cls

/-- 00_scope.md "Flags", R163: a sticky flag after a SET; a written 0 clears it, a written 1 leaves it. -/
def stickyAfter (flag written : Bool) : Bool := flag && written

/-- R6: a stop request is final (CANCEL or FAIL). -/
def StopRequest.final : StopRequest → Bool
  | .cancel => true
  | .fail _ => true
  | .hold => false
  | .requeue => false

/-- R6: the request that stands after `arriving` meets `present`. -/
def StopRequest.settle (present : Option StopRequest) (arriving : StopRequest) : StopRequest :=
  match present with
  | none => arriving
  | some .cancel => .cancel
  | some (.fail r) => .fail r
  | some .hold => if arriving.final then arriving else .hold
  | some .requeue => if arriving.final then arriving else .requeue

end Sys2Proof.Machine
end

