-- ==== Sys2Proof/Machine/Memory.lean ====
section
/-!
DEFINITION. The bytes of the external DRAM (R25, R28, R38): a list of (address, byte) pairs with addresses strictly
rising. An unlisted byte has no value (log entry 10).
-/
namespace Sys2Proof.Machine

/-- The byte at an address, none where nothing was ever written. -/
def Memory.read : Memory → Nat → Option Byte
  | [], _ => none
  | c :: m, a => if c.1 = a then some c.2 else Memory.read m a

/-- R28, R38: a byte written at an address replaces what stood there. -/
def Memory.write : Memory → Nat → Byte → Memory
  | [], a, b => [(a, b)]
  | c :: m, a, b => if a < c.1 then (a, b) :: c :: m else if a = c.1 then (a, b) :: m else c :: Memory.write m a b

/-- Every listed address is above `lo`, and they rise strictly. -/
def Memory.above : Nat → Memory → Bool
  | _, [] => true
  | lo, c :: m => decide (lo < c.1) && Memory.above c.1 m

/-- The canonical form: addresses strictly rising. -/
def Memory.wf : Memory → Bool
  | [] => true
  | c :: m => Memory.above c.1 m

/-- R27: the DRAM address of content position `pos` by a job's chain, none where no chain entry has its ordinal. -/
def addressOf (chain : List ChainEntry) (pos : Nat) : Option Nat :=
  (chain.find? (fun e => e.ordinal == pos / Config.blockSize)).map
    (fun e => e.block * Config.blockSize + pos % Config.blockSize)

/-- R28: bytes written from content position `pos` on. -/
def Memory.writeContent (chain : List ChainEntry) : Memory → Nat → List Byte → Option Memory
  | m, _, [] => some m
  | m, pos, b :: bs =>
    match addressOf chain pos with
    | some a => Memory.writeContent chain (m.write a b) (pos + 1) bs
    | none => none

/-- R46: `n` bytes read from content position `pos` on; none where one was never written or lies in no block of the
chain. -/
def Memory.readContent (chain : List ChainEntry) (m : Memory) : Nat → Nat → Option (List Byte)
  | _, 0 => some []
  | pos, n + 1 =>
    match (addressOf chain pos).bind m.read, Memory.readContent chain m (pos + 1) n with
    | some b, some bs => some (b :: bs)
    | _, _ => none

end Sys2Proof.Machine
end

