-- ==== Sys2Proof/Machine/Operands.lean ====
section
/-!
DEFINITION. What a written value is stored as (R32, R40, R48, R50, R70, R113, R121, R151), the run of rows a request
names (R161), and how received bytes name pools, alert keys and actions.
-/
namespace Sys2Proof.Machine

/-- R48, R50, R70: a pool as written; 8–255 is none. -/
def poolOf (b : Byte) : Option PoolId := finOf 8 b.toNat

/-- R32: media above 15 is stored as 15. -/
def mediaOf (b : Byte) : MediaId := finClamp 15 b.toNat

/-- R32: sides 0 is stored as 1, above 2 as 2. -/
def sidesOf (b : Byte) : Sides := if b.toNat ≤ 1 then .one else .two

/-- R32: colour above 2 is stored as 2. -/
def colourOf (b : Byte) : Colour :=
  match b.toNat with
  | 0 => .mono
  | 1 => .accent
  | _ => .full

/-- R32: the mark a MARK frame stores. -/
def markOf (media sides colour : Byte) : Mark :=
  { media := mediaOf media, sides := sidesOf sides, colour := colourOf colour }

/-- R48: a written CLASS row as stored. -/
def ClassRow.store (w : ClassWrite) : ClassRow :=
  { pool := poolOf w.pool, priority := finClamp 3 w.priority.toNat, holdOnOpen := w.holdOnOpen,
    threshold := if w.threshold = 0 then none else some w.threshold.toNat }

/-- R50: a written fallback as stored in the row of pool `p`; the pool's own number is none. -/
def fallbackOf (p : PoolId) (b : Byte) : Option PoolId :=
  match poolOf b with
  | some q => if q = p then none else some q
  | none => none

/-- R50: a written POOL row as stored; the status fields are passed over. -/
def PoolRow.store (p : PoolId) (w : PoolWrite) (row : PoolRow) : PoolRow :=
  { row with threshold := w.threshold.toNat, fallback := fallbackOf p w.fallback }

/-- R70: a written LANE CONFIG row as stored; the ceiling first, the floor against it; enabled is passed over. -/
def Lane.store (w : LaneWrite) (l : Lane) : Lane :=
  { l with
    pool := poolOf w.pool,
    zone := finClamp 3 w.zone.toNat,
    stallCeiling := max 100 w.stallCeiling.toNat,
    stallFloor := min (max 100 w.stallFloor.toNat) (max 100 w.stallCeiling.toNat),
    recoveryDelay := w.recoveryDelay.toNat }

/-- R113: a written TARIFF row as stored. -/
def TariffRow.store (w : TariffWrite) : TariffRow :=
  { w0 := min w.w0.toNat 4095, w1 := min w.w1.toNat 4095, w2 := min w.w2.toNat 4095,
    duplex := clamp w.duplex.toNat 16 32 }

/-- R121: a written ACCOUNT row as stored. -/
def AccountRow.store (w : AccountWrite) : AccountRow :=
  { enabled := w.enabled, factor := w.factor.toNat, budget := w.budget.map BitVec.toNat }

/-- R151: a period of 0 is stored as 1. -/
def periodOf (b : Byte) : Nat := if b = 0 then 1 else b.toNat

/-- R151: a written ZONE row as stored; the status fields are passed over. -/
def Zone.store (w : ZoneWrite) (z : Zone) : Zone :=
  { z with
    urgentOn := w.urgentOn.toNat, urgentPeriod := periodOf w.urgentPeriod, noticeOn := w.noticeOn.toNat,
    noticePeriod := periodOf w.noticePeriod, escalation := w.escalation.toNat }

/-- R40: the high watermark is stored first, clamped to 1 through the block count. -/
def highOf (blockCount written : Nat) : Nat := clamp written 1 blockCount

/-- R40: the low watermark is then stored clamped to 0 through the stored high watermark minus 1. -/
def lowOf (high written : Nat) : Nat := clamp written 0 (high - 1)

/-- R163: the office zone; above 3 is stored as 3. -/
def zoneOf (b : Byte) : ZoneId := finClamp 3 b.toNat

/-- R131, R161: the run of rows from `first`, of `count` rows held at 16 and at the table's row count, wrapping within
the first row's page (the whole table when it has fewer than 16 rows). -/
def runOf (rows first count : Nat) : List Nat :=
  let page := min 16 rows
  (List.range (min count page)).map (fun i => first - first % page + (first % page + i) % page)

/-- R161, R162: the first row or count of a request names no run of the table. -/
def badIndex (rows : Nat) (first count : Byte) : Bool := decide (rows ≤ first.toNat) || count == 0

/-- R162: each carried row with the index of the run it is matched to; rows beyond the run are passed over. -/
def matched {α : Type} (n : Nat) (first count : Byte) (rows : List α) : List (Fin n × α) :=
  ((runOf n first.toNat count.toNat).zip rows).filterMap (fun p => (finOf n p.1).map (fun i => (i, p.2)))

/-- R148, section 10.2: the source a type and a number name. -/
def sourceOf (sourceType sourceNumber : Byte) : Option AlertSource :=
  match sourceType.toNat with
  | 0 => (finOf 16 sourceNumber.toNat).map .lane
  | 1 => (finOf 128 sourceNumber.toNat).map .account
  | 2 => if sourceNumber = 0 then some .system else none
  | _ => none

/-- R140, section 10.4: the alert kinds in order. -/
def alertKinds : List AlertKind :=
  [.jam, .stall, .laneDown, .paperOut, .coverOpen, .printerFault, .budgetHold, .jamCleared, .laneUp, .paperLow,
    .tonerLow, .phantomSheet, .retentionLost]

/-- Section 10.4: the kind an alert kind byte names. -/
def alertKindOf (b : Byte) : Option AlertKind := alertKinds[b.toNat]?

/-- R86: the lane a LANE CONTROL's lane byte names. -/
def laneOf (b : Byte) : Option LaneId := finOf 16 b.toNat

end Sys2Proof.Machine
end

