-- ==== Sys2Proof/Machine/Ops.lean ====
section
/-!
DEFINITION. Reading and writing the records of State, the answers of the LINK PORT (R157, R159), and the guards under
which commands are taken (R137, R156, R157, R166). The 4160 has no exception entry.
-/
namespace Sys2Proof.Machine

/-- The outcome of a command. -/
abbrev Out := Host.Outcome State Fault Refusal

/-! ### Records -/

/-- The job record of a slot. -/
def State.job (s : State) (i : Slot) : Job := s.jobs.slots[i]

/-- Replace the job record of a slot. -/
def State.setJob (s : State) (i : Slot) (j : Job) : State :=
  { s with jobs := { s.jobs with slots := s.jobs.slots.set i.val j i.isLt } }

/-- The lane record of a lane. -/
def State.lane (s : State) (l : LaneId) : Lane := s.lanes[l]

/-- Replace the lane record of a lane. -/
def State.setLane (s : State) (l : LaneId) (x : Lane) : State := { s with lanes := s.lanes.set l.val x l.isLt }

/-- The POOL row of a pool. -/
def State.pool (s : State) (p : PoolId) : PoolRow := s.pools[p]

/-- Replace the POOL row of a pool. -/
def State.setPool (s : State) (p : PoolId) (x : PoolRow) : State := { s with pools := s.pools.set p.val x p.isLt }

/-- A zone of the ALERT UNIT. -/
def State.zone (s : State) (z : ZoneId) : Zone := s.alerts.zones[z]

/-- Replace a zone of the ALERT UNIT. -/
def AlertUnit.setZone (u : AlertUnit) (z : ZoneId) (x : Zone) : AlertUnit :=
  { u with zones := u.zones.set z.val x z.isLt }

/-- R4: the handle names the job of its slot. -/
def State.matches (s : State) (h : Handle) : Bool :=
  decide ((s.job h.slot).state ≠ .free) && decide ((s.job h.slot).gen = h.gen)

/-- The handle of the job in a slot. -/
def State.handleOf (s : State) (i : Slot) : Handle := { slot := i, gen := (s.job i).gen }

/-! ### Answers -/

/-- R159: an answer joins the tail of the response queue. -/
def State.answer (s : State) (r : Response) : State :=
  { s with link := { s.link with responses := s.link.responses ++ [r] } }

/-- R158: a REFUSE joins the tail of the response queue. -/
def State.refuse (s : State) (kind : Byte) (code : RefusalCode) (item : RefuseItem) : State :=
  s.answer (.refuse kind code item)

/-- R157: the response queue has a free place. -/
def State.hasRoom (s : State) : Bool := decide (s.link.responses.length < Config.responsePlaces)

/-- R157: a request discarded untaken sets RESPONSE OVERFLOW. -/
def State.discardUntaken (s : State) : State := { s with link := { s.link with overflow := true } }

/-- R156: a discarded frame raises the link error count, which saturates at 65,535. -/
def State.linkError (s : State) : State :=
  { s with link := { s.link with errors := satAdd 65535 s.link.errors 1 } }

/-! ### When a command is taken -/

/-- R137: in HALTED no block acts. -/
def State.whenRunning (s : State) (act : State → State) : State := if s.supply.halted then s else act s

/-- R156, R166: a frame arrives only while the part runs and the link is UP (log entry 6). -/
def State.onFrame (s : State) (act : State → State) : State :=
  s.whenRunning (fun s => if s.link.up then act s else s)

/-- R157: a request other than RESET, DATA and MARK is taken only when the response queue has a free place. -/
def State.onRequest (s : State) (act : State → State) : State :=
  s.onFrame (fun s => if s.hasRoom then act s else s.discardUntaken)

/-- R156, R157: a request whose body must fit its length; one that does not is discarded as a link error
(log entry 32). -/
def State.onSized (s : State) (fits : Bool) (act : State → State) : State :=
  s.onFrame (fun s => if fits then (if s.hasRoom then act s else s.discardUntaken) else s.linkError)

/-- R67, R137: a token from a printer is taken in every lane state but OFFLINE. -/
def State.onToken (s : State) (l : LaneId) (act : State → State) : State :=
  s.whenRunning (fun s => if (s.lane l).state = .offline then s else act s)

/-! ### Timers -/

/-- R2, log entry 7: a running timer has reached its length. -/
def Timer.due (now : Time) : Option Timer → Bool
  | some t => decide (t.length ≤ since now t.start)
  | none => false

/-- A timer of `n` milliseconds started now. -/
def Timer.from (now : Time) (n : Nat) : Timer := { start := now, length := n }

end Sys2Proof.Machine
end

