-- ==== Sys2Proof/Machine/Alerts.lean ====
section
/-!
DEFINITION. The ALERT UNIT: raising, coalescing, displacing (R142, R143), display classes and beacon generators (R152,
R153), escalation (R154), and the two candidates offered to the uplink (R145).
-/
namespace Sys2Proof.Machine

/-- R142: the entry has the key. -/
def AlertEntry.hasKey (e : AlertEntry) (src : AlertSource) (kind : AlertKind) : Bool :=
  decide (e.source = src) && decide (e.kind = kind)

/-! ### Zones -/

/-- R152: the display class the queue gives a zone. -/
def displayOf (queue : List AlertEntry) (z : ZoneId) : Display :=
  if queue.any (fun e => decide (e.zone = z) && decide (e.cls = .urgent)) then .urgent
  else if queue.any (fun e => decide (e.zone = z) && decide (e.cls = .notice)) then .notice
  else .dark

/-- R153: the period that starts now with the pattern of the display class; none when DARK. -/
def Zone.period (now : Time) (d : Display) (z : Zone) : Option BeaconPeriod :=
  match d with
  | .urgent => some { start := now, on := z.urgentOn, period := z.urgentPeriod, high := decide (0 < z.urgentOn) }
  | .notice => some { start := now, on := z.noticeOn, period := z.noticePeriod, high := decide (0 < z.noticeOn) }
  | .dark => none

/-- R152 to R154: the zone shows display class `d`. A changed class restarts the generator, and leaving URGENT ends
escalation and clears the count. -/
def Zone.show (now : Time) (d : Display) (z : Zone) : Zone :=
  if z.display = d then z
  else if z.display = .urgent then
    { z with display := d, generator := z.period now d, count := 0, escalated := false }
  else { z with display := d, generator := z.period now d }

/-- R154: the escalation check: the zone becomes escalated when it is URGENT, E is 1–255 and the count has reached
E. -/
def Zone.escalate (z : Zone) : Zone :=
  if z.display = .urgent ∧ 1 ≤ z.escalation ∧ z.escalation ≤ z.count then { z with escalated := true } else z

/-- R137, R153: the beacon output of a zone. -/
def State.beaconPin (s : State) (z : ZoneId) : Bool :=
  !s.supply.halted && ((s.zone z).escalated || match (s.zone z).generator with | some g => g.high | none => false)

/-- R137, R154: the escalate output of a zone. -/
def State.escalatePin (s : State) (z : ZoneId) : Bool := !s.supply.halted && (s.zone z).escalated

/-- R152: recompute the display class of a zone. -/
def AlertUnit.recompute (now : Time) (z : ZoneId) (u : AlertUnit) : AlertUnit :=
  u.setZone z (u.zones[z].show now (displayOf u.queue z))

/-- R152: an entry of class URGENT or NOTICE was created or removed. -/
def AlertUnit.touched (now : Time) (e : AlertEntry) (u : AlertUnit) : AlertUnit :=
  if e.cls = .info then u else u.recompute now e.zone

/-! ### Raising -/

/-- R142: a new entry. -/
def AlertEntry.new (now : Time) (zone : ZoneId) (src : AlertSource) (kind : AlertKind) : AlertEntry :=
  { source := src, kind := kind, zone := zone, first := now, last := now, occurrences := 1, sent := false,
    inFlight := false, raisedInFlight := false }

/-- R142: the entry stands after every entry of its own class or a higher class and before every entry of a lower
class. -/
def insertEntry (e : AlertEntry) : List AlertEntry → List AlertEntry
  | [] => [e]
  | x :: q => if x.cls.rank ≤ e.cls.rank then x :: insertEntry e q else e :: x :: q

/-- R142: the alert is coalesced into an entry of its key. -/
def AlertEntry.coalesce (now : Time) (e : AlertEntry) : AlertEntry :=
  { e with occurrences := satAdd 255 e.occurrences 1, last := now, sent := false,
           raisedInFlight := e.raisedInFlight || e.inFlight }

/-- R142: a new entry joins the queue. -/
def AlertUnit.create (now : Time) (e : AlertEntry) (u : AlertUnit) : AlertUnit :=
  ({ u with queue := insertEntry e u.queue } : AlertUnit).touched now e

/-- R143: the tail entry leaves the queue and ALERT OVERFLOW is set. -/
def AlertUnit.displace (now : Time) (tail : AlertEntry) (u : AlertUnit) : AlertUnit :=
  ({ u with queue := u.queue.dropLast, overflow := true } : AlertUnit).touched now tail

/-- R142, R143: an alert is raised for a key in a zone. -/
def AlertUnit.raise (now : Time) (zone : ZoneId) (src : AlertSource) (kind : AlertKind) (u : AlertUnit) : AlertUnit :=
  if u.queue.any (fun e => e.hasKey src kind) then
    { u with queue := u.queue.map (fun e => if e.hasKey src kind then e.coalesce now else e) }
  else if u.queue.length < Config.alertPlaces then u.create now (.new now zone src kind)
  else
    match u.queue.getLast? with
    | some tail =>
      if kind.cls.rank < tail.cls.rank then (u.displace now tail).create now (.new now zone src kind)
      else { u with overflow := true }
    | none => { u with overflow := true }

/-- R141: an alert whose source is a lane takes the zone of that lane's LANE CONFIG row. -/
def State.raiseLane (s : State) (l : LaneId) (kind : AlertKind) : State :=
  { s with alerts := s.alerts.raise s.time (s.lane l).zone (.lane l) kind }

/-- R141: an alert whose source is an account takes the office zone. -/
def State.raiseAccount (s : State) (a : AccountId) (kind : AlertKind) : State :=
  { s with alerts := s.alerts.raise s.time s.alerts.office (.account a) kind }

/-- R138, R141: an alert whose source is the system takes the office zone. -/
def State.raiseSystem (s : State) (kind : AlertKind) : State :=
  { s with alerts := s.alerts.raise s.time s.alerts.office .system kind }

/-! ### Acknowledgement and sending -/

/-- R148, R149: the entries that `drop` names leave the queue, and every zone is recomputed. -/
def AlertUnit.remove (now : Time) (drop : AlertEntry → Bool) (u : AlertUnit) : AlertUnit :=
  (u.queue.filter drop).foldl (fun v e => v.touched now e) { u with queue := u.queue.filter (fun e => !drop e) }

/-- R145: the urgent candidate. -/
def AlertUnit.urgentCandidate (u : AlertUnit) : Option AlertEntry :=
  u.queue.find? (fun e => !e.sent && !e.inFlight && decide (e.cls = .urgent))

/-- R145: the routine candidate. -/
def AlertUnit.routineCandidate (u : AlertUnit) : Option AlertEntry :=
  u.queue.find? (fun e => !e.sent && !e.inFlight && decide (e.cls ≠ .urgent))

/-- R145: the ALERT frame of an entry is started. -/
def AlertUnit.startFrame (e : AlertEntry) (u : AlertUnit) : AlertUnit :=
  { u with queue := u.queue.map (fun x =>
      if x.hasKey e.source e.kind then { x with inFlight := true, raisedInFlight := false } else x) }

/-- R145: what the ALERT frame of an entry carries. -/
def AlertEntry.frame (overflow : Bool) (e : AlertEntry) : AlertFrame :=
  { source := e.source, kind := e.kind, zone := e.zone, first := e.first, last := e.last,
    occurrences := e.occurrences, overflow := overflow }

/-- R146: the entry in flight is settled when its ALERT frame is handed over. -/
def AlertUnit.settle (src : AlertSource) (kind : AlertKind) (u : AlertUnit) : AlertUnit :=
  { u with queue := u.queue.filterMap (fun e =>
      if e.hasKey src kind && e.inFlight then
        if e.raisedInFlight then some { e with inFlight := false, raisedInFlight := false }
        else if e.cls = .info then none
        else some { e with sent := true, inFlight := false }
      else some e) }

/-- R147: at LINK DOWN an entry whose ALERT was in flight returns to PENDING. -/
def AlertUnit.linkDown (u : AlertUnit) : AlertUnit :=
  { u with queue := u.queue.map (fun e => { e with inFlight := false, raisedInFlight := false }) }

end Sys2Proof.Machine
end

