-- ==== Sys2Proof/Machine/Meter.lean ====
section
/-!
DEFINITION. The METER UNIT: the sheet charge (R115), reservation, delivery and spoilage (R124 to R127), the budget check
(R128), the held-charge list and the hold (R131 to R136), and the lane counters (R125).
-/
namespace Sys2Proof.Machine

/-! ### The sheet charge -/

/-- R115 step 1: the weight of a colour. -/
def TariffRow.weight (t : TariffRow) : Colour → Nat
  | .mono => t.w0
  | .accent => t.w1
  | .full => t.w2

/-- R115 step 2: 16 for one side, the duplex factor for two. -/
def TariffRow.sideFactor (t : TariffRow) : Sides → Nat
  | .one => 16
  | .two => t.duplex

/-- R115: floor((W × F × A + 64) / 128). -/
def sheetCharge (t : TariffRow) (factor : Nat) (m : Mark) : Nat :=
  (t.weight m.colour * t.sideFactor m.sides * factor + 64) / 128

/-- R116: the charge of a mark for an account, with the tables as they stand. -/
def MeterUnit.charge (u : MeterUnit) (a : AccountId) (m : Mark) : Nat :=
  sheetCharge u.tariff[m.media] u.accounts[a].factor m

/-! ### Records -/

/-- Replace the reserved total of an account. -/
def MeterUnit.setReserved (u : MeterUnit) (a : AccountId) (n : Nat) : MeterUnit :=
  { u with reserved := u.reserved.set a.val n a.isLt }

/-- Replace the meters of an account. -/
def MeterUnit.setMeter (u : MeterUnit) (a : AccountId) (m : AccountMeter) : MeterUnit :=
  { u with bank := { u.bank with meters := u.bank.meters.set a.val m a.isLt } }

/-- Replace the counters of a lane. -/
def MeterUnit.setCounters (u : MeterUnit) (l : LaneId) (c : LaneCounters) : MeterUnit :=
  { u with bank := { u.bank with counters := u.bank.counters.set l.val c l.isLt } }

/-- R128: the charge sum of an account's held entry, 0 when it has none. -/
def MeterUnit.heldCharge (u : MeterUnit) (a : AccountId) : Nat :=
  match u.held.find? (fun e => decide (e.account = a)) with
  | some e => e.charge
  | none => 0

/-! ### The budget check -/

/-- R128: the budget check of a charge on an account, on exact values. -/
def MeterUnit.passes (u : MeterUnit) (a : AccountId) (c : Nat) : Bool :=
  match u.accounts[a].budget with
  | none => true
  | some b => decide (u.bank.meters[a].total + u.heldCharge a + u.reserved[a] + c ≤ b * 256)

/-- R77, R124: a passing check reserves the charge. -/
def MeterUnit.reserve (u : MeterUnit) (a : AccountId) (c : Nat) : MeterUnit :=
  u.setReserved a (satAdd max48 u.reserved[a] c)

/-- R124: an entry's charge leaves the reserved total. -/
def MeterUnit.unreserve (u : MeterUnit) (a : AccountId) (c : Nat) : MeterUnit := u.setReserved a (u.reserved[a] - c)

/-! ### Delivery -/

/-- R120, R123: charge and sheets reach an account's meters; a clipped charge sets SATURATED. -/
def MeterUnit.addMetered (u : MeterUnit) (a : AccountId) (c n : Nat) : MeterUnit :=
  u.setMeter a
    { total := satAdd max48 u.bank.meters[a].total c,
      sheets := satAdd max32 u.bank.meters[a].sheets n,
      saturated := u.bank.meters[a].saturated || decide (max48 < u.bank.meters[a].total + c) }

/-- R132: the held entries are applied in list order and the list empties. -/
def MeterUnit.applyHeld (u : MeterUnit) : MeterUnit :=
  u.held.foldl (fun v e => v.addMetered e.account e.charge e.sheets) { u with held := [] }

/-- R132: an account has a held entry. -/
def MeterUnit.hasHeld (u : MeterUnit) (a : AccountId) : Bool := u.held.any (fun e => decide (e.account = a))

/-- R132: a delivery added to an account's held entry; a clipped charge sum sets SATURATED (R120). -/
def MeterUnit.addHeld (u : MeterUnit) (a : AccountId) (c : Nat) : MeterUnit :=
  let v : MeterUnit :=
    { u with held := u.held.map (fun e =>
        if e.account = a then { e with charge := satAdd max48 e.charge c, sheets := satAdd max32 e.sheets 1 } else e) }
  if max48 < u.heldCharge a + c then v.setMeter a { v.bank.meters[a] with saturated := true } else v

/-- R126 step 2, R132, R134: where a delivered charge goes. -/
def MeterUnit.place (u : MeterUnit) (a : AccountId) (c : Nat) : MeterUnit :=
  match u.hold with
  | none => u.addMetered a c 1
  | some range =>
    if range.contains a then
      if u.hasHeld a then u.addHeld a c
      else if u.held.length < Config.heldPlaces then
        { u with held := u.held ++ [{ account := a, charge := c, sheets := 1 }] }
      else ({ u.applyHeld with hold := none } : MeterUnit).addMetered a c 1
    else u.addMetered a c 1

/-- R126: the METER UNIT delivers an entry of a lane. -/
def MeterUnit.deliver (u : MeterUnit) (l : LaneId) (a : AccountId) (c : Nat) : MeterUnit :=
  let v := (u.unreserve a c).place a c
  v.setCounters l { v.bank.counters[l] with delivered := satAdd max32 v.bank.counters[l].delivered 1 }

/-- R127: the METER UNIT spoils an entry of a lane. -/
def MeterUnit.spoil (u : MeterUnit) (l : LaneId) (a : AccountId) (c : Nat) : MeterUnit :=
  let v := u.unreserve a c
  v.setCounters l
    { v.bank.counters[l] with
      spoiled := satAdd max32 v.bank.counters[l].spoiled 1,
      spoiledCharge := satAdd max48 v.bank.counters[l].spoiledCharge c }

/-- R93, R125: the jam count of a lane rises. -/
def MeterUnit.countJam (u : MeterUnit) (l : LaneId) : MeterUnit :=
  u.setCounters l { u.bank.counters[l] with jams := satAdd max32 u.bank.counters[l].jams 1 }

/-- R107, R125: the stall count of a lane rises. -/
def MeterUnit.countStall (u : MeterUnit) (l : LaneId) : MeterUnit :=
  u.setCounters l { u.bank.counters[l] with stalls := satAdd max32 u.bank.counters[l].stalls 1 }

/-- R110, R125: the phantom count of a lane rises. -/
def MeterUnit.countPhantom (u : MeterUnit) (l : LaneId) : MeterUnit :=
  u.setCounters l { u.bank.counters[l] with phantoms := satAdd max32 u.bank.counters[l].phantoms 1 }

/-! ### The meter read -/

/-- R136: a hold in progress is abandoned. -/
def MeterUnit.abandon (u : MeterUnit) : MeterUnit :=
  match u.hold with
  | some _ => { u.applyHeld with hold := none }
  | none => u

/-- R133: the record of an account as it stands. -/
def MeterUnit.record (u : MeterUnit) (a : AccountId) : MeterRecord :=
  { account := a, total := u.bank.meters[a].total, sheets := u.bank.meters[a].sheets, reserved := u.reserved[a],
    saturated := u.bank.meters[a].saturated }

/-- R135 step 1: a record's reported values are subtracted. -/
def MeterUnit.subtract (u : MeterUnit) (r : MeterRecord) : MeterUnit :=
  u.setMeter r.account
    { u.bank.meters[r.account] with
      total := u.bank.meters[r.account].total - r.total,
      sheets := u.bank.meters[r.account].sheets - r.sheets }

/-- R135 step 2: the SATURATED flag of an account whose record reported it set is cleared. -/
def MeterUnit.clearSaturated (u : MeterUnit) (r : MeterRecord) : MeterUnit :=
  if r.saturated then u.setMeter r.account { u.bank.meters[r.account] with saturated := false } else u

/-- R135 steps 1 to 4: the end of a meter read. -/
def MeterUnit.endRead (u : MeterUnit) (zero : Bool) (records : List MeterRecord) : MeterUnit :=
  let v := if zero then records.foldl MeterUnit.subtract u else u
  match u.hold with
  | some _ =>
    let w := if zero then records.foldl MeterUnit.clearSaturated v else v
    { w.applyHeld with hold := none }
  | none => v

end Sys2Proof.Machine
end

