-- ==== Sys2Proof/Machine/Lanes.lean ====
section
/-!
DEFINITION. A LANE ENGINE on its own record: entering a state with its timers and clearings (R69, R84, R87, R92, R95,
R106, R108, R112), starting a job (R74), the stall limit and the sheet-interval capture (R107, R108), leaving a job
(R53, R81, R83), and the reading of job content (R46).
-/
namespace Sys2Proof.Machine

/-! ### Job content -/

/-- R27: the size of an item in the store. -/
def Item.size (i : Item) : Nat :=
  match i.body with
  | .run len => 4 + len
  | .mark _ => 8

/-- R36: the content position the restart point stands at. -/
def Job.restartPos (j : Job) : Nat :=
  match j.restart with
  | .fixed p => p
  | .following => j.storedEnd

/-- The mark stored at a content position. -/
def Job.markAt (j : Job) (pos : Nat) : Option Mark :=
  j.items.findSome? (fun i => if i.pos = pos then match i.body with | .mark m => some m | .run _ => none else none)

/-- R36: the position of the first mark after a content position. -/
def Job.nextMark (j : Job) (pos : Nat) : Option Nat :=
  (j.items.find? (fun i => decide (pos < i.pos) && match i.body with | .mark _ => true | .run _ => false)).map Item.pos

/-- R36: the restart point when the sheet of the mark at `pos` has been sent. -/
def Job.restartAfter (j : Job) (pos : Nat) : Restart :=
  match j.nextMark pos with
  | some p => .fixed p
  | none => .following

/-- R46: the store's answer to a lane read. `bytes` gives the position of the first payload byte, the count, and the
position after them. -/
inductive ReadAnswer where
  | mark (m : Mark)
  | bytes (pos count next : Nat)
  | wait
  | finished
  | lost
  deriving DecidableEq, Repr

/-- R46: the answer of one item to a read at a position inside it. -/
def Item.answer (i : Item) (pos : Nat) : ReadAnswer :=
  match i.body with
  | .mark m => if pos = i.pos then .mark m else .lost
  | .run len =>
    let p := max pos (i.pos + 4)
    .bytes p (min Config.readBytes (i.pos + 4 + len - p)) (p + min Config.readBytes (i.pos + 4 + len - p))

/-- R46: a lane read at a content position. -/
def Job.readAt (j : Job) (pos : Nat) : ReadAnswer :=
  if j.storedEnd ≤ pos then (if j.isOpen then .wait else .finished)
  else
    match j.items.find? (fun i => decide (i.pos ≤ pos) && decide (pos < i.pos + i.size)) with
    | some i => i.answer pos
    | none => .lost

/-- R75: two content positions lie in different blocks. -/
def crosses (p q : Nat) : Bool := decide (p / Config.blockSize ≠ q / Config.blockSize)

/-! ### Lane states -/

/-- R95: the poll interval of a lane state; none in OFFLINE. -/
def LaneState.pollInterval : LaneState → Option Nat
  | .offline => none
  | .down => some 1000
  | .idle => some 500
  | .sending | .starved | .paused | .draining => some 50
  | .jammed | .recovering => some 100

/-- R54: a member in this state keeps its pool up. -/
def LaneState.working : LaneState → Bool
  | .offline | .down => false
  | .idle | .sending | .starved | .paused | .draining | .jammed | .recovering => true

/-- R106: the stall timer can run in this state. -/
def LaneState.stallRuns : LaneState → Bool
  | .sending | .starved | .draining => true
  | .offline | .down | .idle | .paused | .jammed | .recovering => false

/-- R95: the poll timer when the lane moves to `st`. -/
def Lane.repoll (now : Time) (st : LaneState) (l : Lane) : Option Timer :=
  if st = .down ∨ st.pollInterval ≠ l.state.pollInterval then st.pollInterval.map (Timer.from now) else l.pollTimer

/-- The lane enters a state: the poll timer by R95, and what the entry clears (R69, R84, R87, R92, R94, R96, R97, R103,
R106, R108, log entries 22 and 26). -/
def Lane.enter (now : Time) (st : LaneState) (l : Lane) : Lane :=
  let x : Lane := { l with state := st, pollTimer := l.repoll now st }
  match st with
  | .offline =>
    { x with credits := 0, command := none, misses := 0, pollOut := false, pollDue := false, stallTimer := none,
             recoveryTimer := none, stallCaused := false }
  | .down =>
    { x with credits := 0, command := none, misses := 0, pollOut := false, stallTimer := none, recoveryTimer := none,
             stallCaused := false, mirror := 0, lastSheet := none, capture := none }
  | .idle => { x with stallTimer := none, recoveryTimer := none, stallCaused := false, lastSheet := none, capture := none }
  | .jammed => { x with stallTimer := none, recoveryTimer := none, lastSheet := none, capture := none }
  | .recovering => { x with stallTimer := none, stallCaused := false }
  | .paused => { x with stallTimer := none, recoveryTimer := none }
  | .sending => { x with recoveryTimer := none }
  | .starved => x
  | .draining => x

/-- R107: the stall limit computed now. -/
def Lane.stallLimit (l : Lane) : Nat :=
  match l.capture with
  | some c => clamp (4 * c) l.stallFloor l.stallCeiling
  | none => l.stallCeiling

/-- R106: the stall timer is started now. -/
def Lane.startStall (now : Time) (l : Lane) : Lane := { l with stallTimer := some (Timer.from now l.stallLimit) }

/-- R106: the stall timer after an event that starts it while the list is not empty and stops it otherwise. -/
def Lane.restall (now : Time) (l : Lane) : Lane :=
  if l.inFlight.isEmpty ∨ !l.state.stallRuns then { l with stallTimer := none } else l.startStall now

/-- R108: a retiring SHEET OUT measures the interval since the one before it. -/
def Lane.measure (now : Time) (l : Lane) : Lane :=
  { l with
    capture := match l.lastSheet with
      | some t => some (clamp (since now t) 1 65535)
      | none => l.capture,
    lastSheet := some now }

/-- R96: any token taken from the printer. -/
def Lane.heard (l : Lane) : Lane := { l with misses := 0, pollOut := false }

/-- R75: the send position moves; at the next mark while in a sheet, in-sheet becomes no. -/
def Lane.moveTo (j : Job) (pos : Nat) (l : Lane) : Lane :=
  { l with sendPos := pos, inSheet := l.inSheet && (j.markAt pos).isNone }

/-- R74 step 3: the send position moves to the restart point. -/
def Lane.endPrologue (j : Job) (l : Lane) : Lane := { l with prologueDue := false, sendPos := j.restartPos }

/-- R74: start or restart of a job on the lane. -/
def Lane.start (now : Time) (j : Job) (l : Lane) : Lane :=
  let x : Lane :=
    { l with stream := l.stream ++ [.jobBegin j.tag (decide (0 < j.delivered) || j.split)],
             sendPos := 0, prologueDue := true, inSheet := false, roomWait := false, resume := none }
  let y := if j.prologueEnd = some 0 then x.endPrologue j else x
  if notReady y.mirror then { (y.enter now .sending).enter now .paused with resume := some .sending }
  else y.enter now .sending

/-- R81, R83, R97: the fields cleared when the lane leaves its job; the effective pool follows the configured pool
(R53). -/
def Lane.clearJob (l : Lane) : Lane :=
  { l with job := none, sendPos := 0, prologueDue := false, inSheet := false, resume := none, roomWait := false,
           effPool := l.pool }

/-- R81, R83: the lane leaves its job by completion or by a stop request applied: JOB FINISH joins the job stream and
the lane takes the state its present state and enabled give. -/
def Lane.leave (now : Time) (l : Lane) : Lane :=
  let x := ({ l with stream := l.stream ++ [.jobFinish] } : Lane).clearJob
  if !l.enabled then x.enter now .offline
  else if l.state = .jammed then x
  else x.enter now .idle

/-- R97 steps 3 and 4, R68: the lane after lane loss. -/
def Lane.lose (now : Time) (l : Lane) : Lane :=
  let x := ({ l with stream := [], lastSheet := none, capture := none } : Lane).clearJob
  x.enter now (if l.enabled then .down else .offline)

/-- R53: the effective pool follows the configured pool while the lane carries no job. -/
def Lane.syncPool (l : Lane) : Lane := if l.job.isNone then { l with effPool := l.pool } else l

/-- R68: nothing of higher priority than the job stream is ready, and no token waits in it: the gap at which the lane
reads. -/
def Lane.gap (l : Lane) : Bool := l.command.isNone && !l.pollDue && l.stream.isEmpty

end Sys2Proof.Machine
end

