-- ==== Sys2Proof/Machine/Blocks.lean ====
section
/-!
DEFINITION. The INTAKE UNIT's credits (R41, R42) and the return of blocks to the free-block list (R26, R35 to R37, R39),
with which a lane that moves its send position releases what it has passed.
-/
namespace Sys2Proof.Machine

/-! ### Credits -/

/-- R41: the grantable amount; an amount of 0 or below is 0. -/
def IntakeUnit.grantable (u : IntakeUnit) (free : Nat) : Nat :=
  min (Config.maxCredits - u.outstanding) (free - u.low - u.outstanding)

/-- R41: a grant is made. -/
def IntakeUnit.grants (u : IntakeUnit) (free : Nat) : Bool :=
  decide (Config.grantStep ≤ u.grantable free) || (decide (u.outstanding = 0) && decide (1 ≤ u.grantable free))

/-- R165: the count of the CREDIT frame in flight, if one is. -/
def LinkPort.creditInFlight (k : LinkPort) : Option Nat :=
  match k.tx with
  | some (.credit n) => some n
  | _ => none

/-- R42, R165: a granted amount joins the waiting CREDIT, or is kept apart while a CREDIT of `n` is in flight. The counts
saturate (R1): the waiting one at 64, and the one kept apart where the two together reach 64 (log entry 43). -/
def IntakeUnit.grant (u : IntakeUnit) (amount : Nat) (inFlight : Option Nat) : IntakeUnit :=
  match inFlight with
  | some n =>
    { u with outstanding := u.outstanding + amount, kept := satAdd (Config.maxCredits - n) u.kept amount }
  | none =>
    { u with outstanding := u.outstanding + amount,
             waiting := some (satAdd Config.maxCredits (u.waiting.getD 0) amount) }

/-- R26: the free-block count. -/
def State.freeBlocks (s : State) : Nat := s.store.free.length

/-- R41: the grant evaluation, made while the link is UP and the intake state is RUN. -/
def State.evalGrant (s : State) : State :=
  if s.link.up ∧ s.intake.state = .run ∧ s.intake.grants s.freeBlocks = true then
    { s with intake := s.intake.grant (s.intake.grantable s.freeBlocks) s.link.creditInFlight }
  else s

/-! ### Blocks -/

/-- R39: in STOP, free blocks at or above the high watermark take the intake state to RUN. -/
def State.reopenIntake (s : State) : State :=
  if s.intake.state = .stop ∧ s.intake.high ≤ s.freeBlocks then
    { s with intake := { s.intake with state := .run } }
  else s

/-- R26, R37, R39, R41: a block returns to the tail of the free-block list, and the INTAKE UNIT re-evaluates: its state can
only go to RUN, since a return takes the free-block count further from the low watermark, and a grant is evaluated. -/
def State.returnBlock (s : State) (b : Nat) : State :=
  ({ s with store := { s.store with free := s.store.free ++ [b] } } : State).reopenIntake.evalGrant

/-- R21, R37: blocks returned one after another. -/
def State.returnBlocks (s : State) (bs : List Nat) : State := bs.foldl State.returnBlock s

/-- R35: a block of this ordinal holds prologue bytes of the job. -/
def Job.holdsPrologue (j : Job) (ordinal : Nat) : Bool :=
  match j.prologueEnd with
  | none => true
  | some e => decide (ordinal < (e + (Config.blockSize - 1)) / Config.blockSize)

/-- R36: the delivered point of the job in a slot. -/
def State.deliveredPoint (s : State) (i : Slot) : Nat :=
  match (s.job i).lane with
  | some l =>
    match (s.lane l).inFlight with
    | e :: _ => e.markPos
    | [] => (s.job i).restartPos
  | none => (s.job i).restartPos

/-- R37: the release point of the job in a slot. -/
def State.releasePoint (s : State) (i : Slot) : Nat :=
  match (s.job i).lane with
  | some l => min (s.deliveredPoint i) (s.lane l).sendPos
  | none => s.deliveredPoint i

/-- R37: a block of this ordinal lies wholly below the release point. -/
def releasable (point ordinal : Nat) : Bool := decide ((ordinal + 1) * Config.blockSize ≤ point)

/-- R37: the job's chain is checked for releasable blocks. -/
def State.release (s : State) (i : Slot) : State :=
  let kept := (s.job i).chain.takeWhile (fun e => (s.job i).holdsPrologue e.ordinal)
  let rest := (s.job i).chain.dropWhile (fun e => (s.job i).holdsPrologue e.ordinal)
  let gone := rest.takeWhile (fun e => releasable (s.releasePoint i) e.ordinal)
  let left := rest.dropWhile (fun e => releasable (s.releasePoint i) e.ordinal)
  (s.setJob i { s.job i with chain := kept ++ left }).returnBlocks (gone.map ChainEntry.block)

/-- R37: the lane's send position has moved from `old`; a move across a block boundary checks the chain. -/
def State.releaseMoved (s : State) (l : LaneId) (i : Slot) (old : Nat) : State :=
  if crosses old (s.lane l).sendPos then s.release i else s

end Sys2Proof.Machine
end

