-- ==== Sys2Proof/Machine/Arbiter.lean ====
section
/-!
DEFINITION. The DISPATCH ARBITER: membership and the up state (R52, R54), candidates and the winner (R55, R56), the rotor
(R57), assignment (R61) and dispatch passes (R58).
-/
namespace Sys2Proof.Machine

/-- R52: the lane is a member of the pool. -/
def Lane.memberOf (p : PoolId) (l : Lane) : Bool := decide (l.effPool = some p)

/-- R54: a pool is up while a member is in a state other than OFFLINE and DOWN. -/
def State.poolUp (s : State) (p : PoolId) : Bool := s.lanes.toList.any (fun l => l.memberOf p && l.state.working)

/-- R50: the number of members of a pool. -/
def State.members (s : State) (p : PoolId) : Nat := s.lanes.toList.countP (fun l => l.memberOf p)

/-- R57: the lane is an IDLE member of the pool. -/
def Lane.idleIn (p : PoolId) (l : Lane) : Bool := l.memberOf p && decide (l.state = .idle)

/-- R55, R60: the pool in whose candidate set a READY job of pool `q` stands: its own while that is up, its fallback
while it is not. -/
def State.target (s : State) (q : PoolId) : Option PoolId := if s.poolUp q then some q else (s.pool q).fallback

/-- R55: the job in a slot is a candidate of the pool. -/
def State.isCandidate (s : State) (p : PoolId) (i : Slot) : Bool :=
  decide ((s.job i).state = .ready) && decide (s.target (s.job i).pool = some p)

/-- R55: the candidate set of a pool, in slot order. -/
def State.candidates (s : State) (p : PoolId) : List Slot := (List.finRange 256).filter (s.isCandidate p)

/-- R56: the age of a READY job. -/
def State.age (s : State) (i : Slot) : Nat := since s.time (s.job i).readySince

/-- R56: slot `a` goes before slot `b`: higher priority, then greater age, then lower slot. -/
def State.before (s : State) (a b : Slot) : Bool :=
  decide ((s.job b).priority < (s.job a).priority) ||
    (decide ((s.job a).priority = (s.job b).priority) &&
      (decide (s.age b < s.age a) || (decide (s.age a = s.age b) && decide (a < b))))

/-- R56: the first of a list of slots in the arbiter's order. -/
def State.firstOf (s : State) : List Slot → Option Slot
  | [] => none
  | i :: rest =>
    match s.firstOf rest with
    | none => some i
    | some j => some (if s.before j i then j else i)

/-- R56: the winner of a pool's candidate set. -/
def State.winner (s : State) (p : PoolId) : Option Slot := s.firstOf (s.candidates p)

/-- R57: lane numbers from the rotor upward, wrapping from 15 to 0. -/
def rotorOrder (r : LaneId) : List LaneId := (List.finRange 16).map (fun i => r + i)

/-- R57: the lane given to the winner. -/
def State.chooseLane (s : State) (p : PoolId) : Option LaneId :=
  (rotorOrder (s.pool p).rotor).find? (fun l => (s.lane l).idleIn p)

/-- R19, R61: the job of a slot as it becomes PRINTING on a lane. -/
def Job.assign (l : LaneId) (j : Job) : Job := { j with state := .printing, lane := some l, stop := none }

/-- R57, R61: the job of slot `i` is assigned to lane `l` of pool `p`, and the lane starts it (R74). With an empty
prologue the send position moves from 0 to the restart point at once, and the chain is checked when that crosses a block
boundary (R37, R74 step 3). -/
def State.assign (s : State) (p : PoolId) (i : Slot) (l : LaneId) : State :=
  (((s.setJob i ((s.job i).assign l)).setLane l
    (({ s.lane l with job := some (s.handleOf i) } : Lane).start s.time (s.job i))).setPool p
    { s.pool p with rotor := l + 1 }).releaseMoved l i 0

/-- R58: rounds of a dispatch pass; each assignment takes one IDLE lane, so sixteen rounds are enough. -/
def State.passRounds (p : PoolId) : Nat → State → State
  | 0, s => s
  | n + 1, s =>
    match s.chooseLane p with
    | none => s
    | some l =>
      match s.winner p with
      | none => s
      | some i => State.passRounds p n (s.assign p i l)

/-- R58: a dispatch pass for a pool. -/
def State.pass (s : State) (p : PoolId) : State := s.passRounds p 16

/-- R58, R59, log entry 18: the passes that an event makes possible; a pass for a pool with no IDLE member or no candidate
assigns nothing. -/
def State.dispatch (s : State) : State := (List.finRange 8).foldl State.pass s

end Sys2Proof.Machine
end

