-- ==== Sys2Proof/Machine/Jobs.lean ====
section
/-!
DEFINITION. The INTAKE UNIT and the JOB TABLE where they act on each other: becoming READY (R11), the intake state (R39),
forced start (R45), ending (R21) and leaving PRINTING (R20).
-/
namespace Sys2Proof.Machine

/-! ### Becoming READY and the intake state -/

/-- R45: a job is READY or PRINTING. -/
def State.active (s : State) : Bool :=
  s.jobs.slots.toList.any (fun j => decide (j.state = .ready) || decide (j.state = .printing))

/-- R11, R20: the record of a job as it becomes READY. -/
def Job.ready (now : Time) (j : Job) : Job :=
  { j with state := .ready, holdReason := none, stop := none, lane := none, readySince := now }

/-- R11: the job in a slot becomes READY and the DISPATCH ARBITER is told. -/
def State.makeReady (s : State) (i : Slot) : State := (s.setJob i ((s.job i).ready s.time)).dispatch

/-- R45: the job that forced start takes: the oldest FILLING job with a stored sheet. -/
def State.forcedChoice (s : State) : Option Slot :=
  s.jobs.openList.find? (fun i => decide ((s.job i).state = .filling) && decide (1 ≤ (s.job i).stored))

/-- R45: the forced-start check. -/
def State.forcedStart (s : State) : State :=
  if s.active then s
  else
    match s.forcedChoice with
    | some i => (s.setJob i { s.job i with forced := true }).makeReady i
    | none => s

/-- R39: the intake state is checked against the watermarks; entering STOP makes the forced-start check (R45), entering
RUN a grant evaluation (R41). -/
def State.checkIntake (s : State) : State :=
  match s.intake.state with
  | .run =>
    if s.freeBlocks ≤ s.intake.low then ({ s with intake := { s.intake with state := .stop } } : State).forcedStart
    else s
  | .stop =>
    if s.intake.high ≤ s.freeBlocks then s.reopenIntake.evalGrant else s

/-- R45, log entry 17: the forced-start check when the number of READY and PRINTING jobs has fallen to 0 since `before`
and the intake state is STOP. -/
def State.checkFallen (s before : State) : State :=
  if before.active ∧ ¬s.active ∧ s.intake.state = .stop then s.forcedStart else s

/-! ### Ending and leaving PRINTING -/

/-- R21 step 1: the record of a job as it ends. -/
def Job.ended (o : JobOutcome) (j : Job) : Job :=
  { j with state := .done, outcome := some o, holdReason := none, stop := none, lane := none, isOpen := false,
           chain := [] }

/-- R21: the job in a slot ends: DONE, its chain returned in chain order, and the slot at the tail of the end list. -/
def State.endJob (s : State) (i : Slot) (o : JobOutcome) : State :=
  let t := (s.setJob i ((s.job i).ended o)).returnBlocks ((s.job i).chain.map ChainEntry.block)
  { t with jobs := { t.jobs with endList := t.jobs.endList ++ [i] } }

/-- R21, R45: a job that is not PRINTING ends at once. -/
def State.endNow (s : State) (i : Slot) (o : JobOutcome) : State := (s.endJob i o).checkFallen s

/-- R20: the record of a job as it becomes HELD BUDGET. -/
def Job.held (j : Job) : Job := { j with state := .held, holdReason := some .budget, stop := none, lane := none }

/-- R20, R83, R97: the job in a slot leaves PRINTING by a stop request, or by lane loss (`loss`). The arbiter is told
when the lane has left the job (log entry 18). -/
def State.settleJob (s : State) (i : Slot) (r : Option StopRequest) (loss : Bool) : State :=
  match r with
  | some .cancel => s.endJob i .cancelled
  | some (.fail why) => s.endJob i (.failed why)
  | some .hold => (s.setJob i (s.job i).held).release i
  | some .requeue | none =>
    (s.setJob i
      { (s.job i).ready s.time with
        split := (s.job i).split || loss || decide (0 < (s.job i).delivered) }).release i

/-- R83, R97, R129: a job that a HOLD request has made HELD BUDGET raises BUDGET HOLD for its account. -/
def State.raiseHold (s : State) (i : Slot) (r : Option StopRequest) : State :=
  if r = some .hold then s.raiseAccount (s.job i).account .budgetHold else s

/-- R22: a slot is freed: its generation rises by one, wrapping, and it leaves both lists. -/
def State.freeSlot (s : State) (i : Slot) : State :=
  { s with jobs := { slots := s.jobs.slots.set i.val (.freed ((s.job i).gen + 1)) i.isLt,
                     openList := s.jobs.openList.erase i, endList := s.jobs.endList.erase i } }

end Sys2Proof.Machine
end

