-- ==== Sys2Proof/Machine/Stops.lean ====
section
/-!
DEFINITION. How a lane and its job part: completion (R14, R81), stop requests (R6, R82, R83), failure (R18), the end of
content and the wait for content (R47, R80, R81), spoiling (R99), jam handling (R100, R101), lane loss (R97) and
recovery (R103, R104).
-/
namespace Sys2Proof.Machine

/-! ### Completion -/

/-- R14: the job in a slot is complete. -/
def State.isComplete (s : State) (i : Slot) : Bool :=
  match (s.job i).lane with
  | some l =>
    decide ((s.job i).state = .printing) && !(s.job i).isOpen && decide ((s.job i).delivered = (s.job i).stored) &&
      decide ((s.lane l).sendPos = (s.job i).storedEnd) && !(s.lane l).prologueDue &&
      !((s.job i).stop.any StopRequest.final)
  | none => false

/-- R14, R81: the complete job in a slot ends COMPLETED and its lane leaves it by completion. -/
def State.complete (s : State) (i : Slot) (l : LaneId) : State :=
  let t := s.endJob i .completed
  ((t.setLane l ((t.lane l).leave t.time)).dispatch).checkFallen s

/-! ### Stop requests -/

/-- R83: the stop request of the lane's job is applied, its in-flight list being empty. -/
def State.applyStop (s : State) (l : LaneId) : State :=
  match (s.lane l).job with
  | none => s
  | some h =>
    match (s.job h.slot).stop with
    | none => s
    | some r =>
      let t := (s.settleJob h.slot (some r) false).raiseHold h.slot (some r)
      ((t.setLane l ((t.lane l).leave t.time)).dispatch).checkFallen s

/-- R82, R83: the lane enters DRAINING; with an empty list the request is applied at once. -/
def State.drain (s : State) (l : LaneId) : State :=
  let t := s.setLane l { (s.lane l).enter s.time .draining with roomWait := false }
  if (s.lane l).inFlight.isEmpty then t.applyStop l else t

/-- R81: a read answered END: in-sheet becomes no, the completion check is made, and a job with a stop request drains. -/
def State.endOfContent (s : State) (l : LaneId) (i : Slot) : State :=
  let t := s.setLane l { (s.lane l).enter s.time .sending with inSheet := false }
  if t.isComplete i then t.complete i l
  else if (t.job i).stop.isSome then t.drain l
  else t

/-- R47, R80: a STARVED lane reads again: content takes it to SENDING (the read is then acted on at the next gap between
tokens, R68), END to the end of content, WAIT leaves it STARVED. -/
def State.wake (s : State) (l : LaneId) (i : Slot) : State :=
  if (s.lane l).state = .starved then
    match (s.job i).readAt (s.lane l).sendPos with
    | .wait => s
    | .finished => s.endOfContent l i
    | .mark _ | .bytes .. | .lost => s.setLane l ((s.lane l).enter s.time .sending)
  else s

/-- R75, R76: a lane in a sheet that stands where a mark is now stored has reached the next mark: in-sheet becomes no. -/
def State.reachMark (s : State) (l : LaneId) (i : Slot) : State :=
  s.setLane l ((s.lane l).moveTo (s.job i) (s.lane l).sendPos)

/-- R31, R32, R47: the lane of a PRINTING job is told of content. -/
def State.tellLane (s : State) (i : Slot) : State :=
  match (s.job i).lane with
  | some l => (s.reachMark l i).wake l i
  | none => s

/-- R82: the lane stands at a sheet boundary. -/
def Lane.atBoundary (l : Lane) : Bool := !l.inSheet && !l.prologueDue

/-- R80, R82, R83: a stop request has been set for the job of a lane, or its job has been closed by CANCEL or failure. -/
def State.meetStop (s : State) (l : LaneId) (i : Slot) : State :=
  match (s.lane l).state with
  | .jammed | .recovering => s.applyStop l
  | .sending => if (s.lane l).atBoundary then s.drain l else s
  | .starved => if (s.lane l).atBoundary then s.drain l else s.wake l i
  | .paused | .draining | .idle | .down | .offline => s

/-- R6: a stop request arrives for the PRINTING job in a slot. -/
def State.requestStop (s : State) (i : Slot) (r : StopRequest) : State :=
  let t := s.setJob i { s.job i with stop := some (StopRequest.settle (s.job i).stop r) }
  match (t.job i).lane with
  | some l => t.meetStop l i
  | none => t

/-- R18: the job in a slot fails. -/
def State.fail (s : State) (i : Slot) (why : FailReason) : State :=
  let t := s.setJob i { s.job i with isOpen := false }
  match (s.job i).state with
  | .filling | .ready | .held => t.endNow i (.failed why)
  | .printing => t.requestStop i (.fail why)
  | .done | .free => s

/-! ### Spoiling, jams and lane loss -/

/-- R99: one in-flight entry of lane `l` is spoiled. -/
def State.spoilOne (l : LaneId) (s : State) (e : InFlight) : State :=
  ({ s with meter := s.meter.spoil l e.account e.charge } : State).setJob e.job.slot
    { s.job e.job.slot with
      inFlight := (s.job e.job.slot).inFlight - 1,
      spoiled := satAdd max32 (s.job e.job.slot).spoiled 1 }

/-- R36, R100 step 2: the job is rewound to the oldest spoiled sheet. -/
def State.rewind (s : State) (e : InFlight) : State :=
  s.setJob e.job.slot { s.job e.job.slot with nextUnsent := e.sheet, restart := .fixed e.markPos }

/-- R99, R100: the lane's in-flight list is spoiled, oldest first, and its job rewound when anything was. -/
def State.spoil (s : State) (l : LaneId) : State :=
  match (s.lane l).inFlight with
  | [] => s
  | e :: es =>
    let t := (e :: es).foldl (State.spoilOne l) s
    (t.setLane l { t.lane l with inFlight := [] }).rewind e

/-- R100, R101: jam handling of a lane that carries the job in slot `i`. -/
def State.jamJob (s : State) (l : LaneId) (i : Slot) : State :=
  let t := s.spoil l
  let u := t.setLane l
    { (t.lane l).enter t.time .jammed with
      sendPos := (t.job i).restartPos, inSheet := false, prologueDue := false, resume := none, roomWait := false }
  (u.releaseMoved l i (s.lane l).sendPos).applyStop l

/-- R98, R100 to R102: what JAM rising does to a lane by its state. A lane in DOWN comes up into JAMMED. -/
def State.jam (s : State) (l : LaneId) : State :=
  match (s.lane l).state with
  | .sending | .starved | .paused | .draining =>
    match (s.lane l).job with
    | some h => s.jamJob l h.slot
    | none => s
  | .down => (s.setLane l ((s.lane l).enter s.time .jammed)).dispatch
  | .idle | .recovering => s.setLane l ((s.lane l).enter s.time .jammed)
  | .jammed => s.setLane l { s.lane l with stallCaused := false }
  | .offline => s

/-- R97 steps 1 and 2: the treatment of a lost lane's job, but for the BUDGET HOLD alert. -/
def State.loseJob (s : State) (l : LaneId) : State :=
  match (s.lane l).job with
  | some h => (s.spoil l).settleJob h.slot (s.job h.slot).stop true
  | none => s

/-- R97 step 2: lane loss of a job with a HOLD request raises BUDGET HOLD. -/
def State.raiseLost (s before : State) (l : LaneId) : State :=
  match (before.lane l).job with
  | some h => s.raiseHold h.slot (before.job h.slot).stop
  | none => s

/-- R97: lane loss at the third missed poll. -/
def State.lose (s : State) (l : LaneId) : State :=
  let t := (s.loseJob l).raiseLost s l
  (((t.setLane l ((t.lane l).lose t.time)).raiseLane l .laneDown).dispatch).checkFallen s

/-! ### Recovery -/

/-- R104: the lane restarts its job; with an empty prologue its send position moves to the restart point at once (R37, R74
step 3). -/
def State.restart (s : State) (l : LaneId) (i : Slot) : State :=
  (s.setLane l ((s.lane l).start s.time (s.job i))).releaseMoved l i 0

/-- R103: the lane starts recovery. -/
def State.recover (s : State) (l : LaneId) : State :=
  match (s.lane l).job with
  | some h =>
    let t := s.setLane l
      { (s.lane l).enter s.time .recovering with
        recoveryTimer := some (Timer.from s.time ((s.lane l).recoveryDelay * 100)) }
    if (s.lane l).recoveryDelay = 0 then t.restart l h.slot else t
  | none => (s.setLane l ((s.lane l).enter s.time .idle)).dispatch

end Sys2Proof.Machine
end

