-- ==== Sys2Proof/Machine/Sheets.lean ====
section
/-!
DEFINITION. A lane at a sheet boundary (R76, R77, R79), the lane read (R75), pausing for the printer and returning (R94),
and a sheet coming out (R109, R110).
-/
namespace Sys2Proof.Machine

/-- R78: the in-flight entry of the sheet that starts at mark position `pos`. -/
def State.entryFor (s : State) (h : Handle) (pos charge : Nat) : InFlight :=
  { job := h, sheet := (s.job h.slot).nextUnsent, charge := charge, markPos := pos, account := (s.job h.slot).account }

/-- R19, R36: the job record when SHEET BEGIN is sent for the mark at `pos`. -/
def Job.begin (pos : Nat) (j : Job) : Job :=
  { j with nextUnsent := satAdd max32 j.nextUnsent 1, inFlight := j.inFlight + 1, restart := j.restartAfter pos }

/-- R77, R106: the lane record when SHEET BEGIN is sent for the mark at its send position. -/
def Lane.begin (now : Time) (j : Job) (m : Mark) (e : InFlight) (l : Lane) : Lane :=
  let x : Lane :=
    { l with inFlight := l.inFlight ++ [e], inSheet := true, roomWait := false,
             lastToken := some (.sheetBegin (j.tag.setWidth 16) e.sheet m) }
  let y := if l.inFlight.isEmpty then x.startStall now else x
  y.moveTo j (l.sendPos + 8)

/-- R77: the check has passed; the charge is reserved and the sheet is started. -/
def State.beginSheet (s : State) (l : LaneId) (h : Handle) (m : Mark) (charge : Nat) : State :=
  let j := s.job h.slot
  let pos := (s.lane l).sendPos
  let t : State := { s with meter := s.meter.reserve j.account charge }
  (((t.setJob h.slot (j.begin pos)).setLane l
    ((s.lane l).begin s.time j m (s.entryFor h pos charge))).releaseMoved l h.slot pos)

/-- R79: a budget stop: the stop request becomes HOLD and the lane drains. -/
def State.budgetStop (s : State) (l : LaneId) (i : Slot) : State :=
  (s.setJob i { s.job i with stop := some (StopRequest.settle (s.job i).stop .hold) }).drain l

/-- R76: the steps of a lane at a sheet boundary with mark `m` at its send position. -/
def State.boundary (s : State) (l : LaneId) (h : Handle) (m : Mark) : State :=
  if (s.job h.slot).stop.isSome then s.drain l
  else if Config.inFlightPlaces ≤ (s.lane l).inFlight.length then s.setLane l { s.lane l with roomWait := true }
  else
    let charge := s.meter.charge (s.job h.slot).account m
    if s.meter.passes (s.job h.slot).account charge then s.beginSheet l h m charge
    else s.budgetStop l h.slot

/-- R68, R76, R94, R109, log entry 19: a SENDING lane that waits at a mark for room takes the steps of R76 again, at a gap
of its transmitter. -/
def State.retryRoom (s : State) (l : LaneId) : State :=
  if (s.lane l).state = .sending ∧ (s.lane l).roomWait = true ∧ (s.lane l).gap = true then
    match (s.lane l).job with
    | some h =>
      match (s.job h.slot).markAt (s.lane l).sendPos with
      | some m => s.boundary l h m
      | none => s
    | none => s
  else s

/-- R74 step 3, R37, R82: the prologue has ended; the send position moves to the restart point, where a stop request is
met. -/
def State.finishPrologue (s : State) (l : LaneId) (i : Slot) : State :=
  let t := (s.setLane l ((s.lane l).endPrologue (s.job i))).releaseMoved l i (s.lane l).sendPos
  if (t.job i).stop.isSome then t.drain l else t

/-- R75: one DATA token is sent; the send position advances, and the checks of R37 and R14 follow. Blocks are released
before the completion check, as R19 orders the two at a SHEET OUT (log entry 41). -/
def State.sendData (s : State) (l : LaneId) (i : Slot) (bytes : List Byte) (next : Nat) : State :=
  let x : Lane := { s.lane l with credits := (s.lane l).credits - 1, lastToken := some (.data bytes) }
  let t := s.setLane l (x.moveTo (s.job i) next)
  let u := t.releaseMoved l i (s.lane l).sendPos
  if u.isComplete i then u.complete i l else u

/-- R75: the lane acts on the answer to its read; a read that would give DATA is not made while the printer credits are
0 (log entry 20). -/
def State.actOnRead (s : State) (l : LaneId) (h : Handle) : Out :=
  match (s.job h.slot).readAt (s.lane l).sendPos with
  | .mark m => .next (if (s.lane l).prologueDue then s.finishPrologue l h.slot else s.boundary l h m)
  | .wait => .next (s.setLane l ((s.lane l).enter s.time .starved))
  | .finished => .next (s.endOfContent l h.slot)
  | .lost => .fault .contentPositionLost
  | .bytes pos count next =>
    if (s.lane l).credits = 0 then .next s
    else
      match Memory.readContent (s.job h.slot).chain s.store.dram pos count with
      | some bytes => .next (s.sendData l h.slot bytes next)
      | none => .fault .spoolByteUnwritten

/-! ### The not-ready check -/

/-- R94: a PAUSED lane returns to its resume state. -/
def Lane.unpause (now : Time) (r : Resume) (l : Lane) : Lane :=
  let st : LaneState := match r with | .sending => .sending | .starved => .starved
  ({ l.enter now st with resume := none } : Lane).restall now

/-- R80, R82, R94, log entry 23: what a lane back from PAUSED does: a stop request is met at a boundary, a lane waiting
for room takes its steps, a STARVED lane reads again. -/
def State.afterPause (s : State) (l : LaneId) (i : Slot) : State :=
  if (s.job i).stop.isSome ∧ (s.lane l).atBoundary = true then s.drain l
  else if (s.lane l).state = .starved then s.wake l i
  else s.retryRoom l

/-- R94: the not-ready check against the mirror, by the lane's state. -/
def State.checkReady (s : State) (l : LaneId) : State :=
  match (s.lane l).state with
  | .sending =>
    if notReady (s.lane l).mirror then
      s.setLane l { (s.lane l).enter s.time .paused with resume := some .sending }
    else s
  | .starved =>
    if notReady (s.lane l).mirror then
      s.setLane l { (s.lane l).enter s.time .paused with resume := some .starved }
    else s
  | .paused =>
    if isReady (s.lane l).mirror then
      match (s.lane l).resume, (s.lane l).job with
      | some r, some h => (s.setLane l ((s.lane l).unpause s.time r)).afterPause l h.slot
      | _, _ => s
    else s
  | .offline | .down | .idle | .draining | .jammed | .recovering => s

/-! ### SHEET OUT -/

/-- R109 step 3: the job record when its oldest sheet in flight is delivered. -/
def Job.deliver (charge : Nat) (j : Job) : Job :=
  { j with inFlight := j.inFlight - 1, delivered := satAdd max32 j.delivered 1, charge := satAdd max48 j.charge charge }

/-- R109 steps 7 and 8. -/
def State.afterSheet (s : State) (l : LaneId) (i : Slot) : State :=
  if s.isComplete i then s.complete i l
  else if (s.lane l).state = .draining ∧ (s.lane l).inFlight = [] then s.applyStop l
  else s.retryRoom l

/-- R109: a SHEET OUT retires the oldest entry `e` as delivered, leaving `rest`. -/
def State.retire (s : State) (l : LaneId) (e : InFlight) (rest : List InFlight) : State :=
  let t : State := { s with meter := s.meter.deliver l e.account e.charge }
  let u := t.setJob e.job.slot ((s.job e.job.slot).deliver e.charge)
  let v := u.setLane l ((({ (s.lane l).heard with inFlight := rest } : Lane).measure s.time).restall s.time)
  (v.release e.job.slot).afterSheet l e.job.slot

/-- R110: a phantom SHEET OUT. -/
def State.phantom (s : State) (l : LaneId) : State :=
  ({ s.setLane l (s.lane l).heard with meter := s.meter.countPhantom l } : State).raiseLane l .phantomSheet

end Sys2Proof.Machine
end

