-- ==== Sys2Proof/Machine/AlertCommands.lean ====
section
/-!
DEFINITION. ACK ALERT (R148) and ACK ZONE (R149).
-/
namespace Sys2Proof.Machine

/-- R148: the key that an ACK ALERT's bytes name, none where they name no source or no kind. -/
def keyOf (sourceType sourceNumber kind : Byte) : Option (AlertSource × AlertKind) :=
  match sourceOf sourceType sourceNumber, alertKindOf kind with
  | some src, some k => some (src, k)
  | _, _ => none

/-- R148: an entry has the key. -/
def AlertUnit.queued (u : AlertUnit) (key : AlertSource × AlertKind) : Bool :=
  u.queue.any (fun e => e.hasKey key.1 key.2)

/-- R148: the entries a key names leave the ALERT UNIT's queue. -/
def State.removeAlerts (s : State) (drop : AlertEntry → Bool) : State :=
  { s with alerts := s.alerts.remove s.time drop }

/-- ACK_ALERT: R148. -/
def execAckAlert (sourceType sourceNumber kind : Byte) (s : State) : Out :=
  .next (s.onRequest (fun s =>
    match keyOf sourceType sourceNumber kind with
    | some key =>
      if s.alerts.queued key then s.removeAlerts (fun e => e.hasKey key.1 key.2)
      else s.refuse 0x20 .stale (.alertKey sourceType sourceNumber kind)
    | none => s.refuse 0x20 .stale (.alertKey sourceType sourceNumber kind)))

/-- R149: the entries that an ACK ZONE removes. -/
def AlertEntry.ackedBy (z : ZoneId) (e : AlertEntry) : Bool :=
  decide (e.zone = z) && decide (e.cls ≠ .info) && e.sent

/-- ACK_ZONE: R149. -/
def execAckZone (zone : Byte) (s : State) : Out :=
  .next (s.onRequest (fun s =>
    match finOf 4 zone.toNat with
    | some z => s.removeAlerts (AlertEntry.ackedBy z)
    | none => s.refuse 0x21 .badIndex (.zone zone)))

end Sys2Proof.Machine
end

