-- ==== Sys2Proof/Machine/JobCommands.lean ====
section
/-!
DEFINITION. OPEN, CLOSE, CANCEL and RELEASE (R9 to R17), DATA and MARK (R28 to R34).
-/
namespace Sys2Proof.Machine

/-! ### OPEN -/

/-- R9 check 3: a live job carries the tag. -/
def State.tagLive (s : State) (tag : Word) : Bool :=
  s.jobs.slots.toList.any (fun j => decide (j.state ≠ .free) && decide (j.tag = tag))

/-- R10: the lowest-numbered FREE slot. -/
def State.freeSlot? (s : State) : Option Slot :=
  (List.finRange 256).find? (fun i => decide ((s.job i).state = .free))

/-- R9: the checks of an OPEN, in order; the class row, its pool, the account and the slot of one that passes. -/
def State.openChecks (s : State) (tag : Word) (cls account : Byte) :
    Except RefusalCode (ClassId × PoolId × AccountId × Slot) :=
  match finOf 64 cls.toNat with
  | none => .error .noRoute
  | some c =>
    match s.classes[c].pool with
    | none => .error .noRoute
    | some p =>
      match finOf 128 account.toNat with
      | none => .error .noAccount
      | some a =>
        if ¬s.meter.accounts[a].enabled then .error .noAccount
        else if s.tagLive tag then .error .duplicateTag
        else
          match s.freeSlot? with
          | none => .error .noSlot
          | some i => .ok (c, p, a, i)

/-- R10: the record of a job after OPEN. -/
def State.openedJob (s : State) (tag : Word) (c : ClassId) (p : PoolId) (a : AccountId) (i : Slot) : Job :=
  { Job.freed (s.job i).gen with
    state := if s.classes[c].holdOnOpen then .held else .filling,
    holdReason := if s.classes[c].holdOnOpen then some .operator else none,
    tag := tag, cls := c, pool := p, priority := s.classes[c].priority,
    threshold := match s.classes[c].threshold with
      | some n => n
      | none => (s.pool p).threshold,
    account := a, isOpen := true, readySince := s.time }

/-- R10: the OPEN is taken into slot `i`. -/
def State.openInto (s : State) (tag : Word) (c : ClassId) (p : PoolId) (a : AccountId) (i : Slot) : State :=
  let t := s.setJob i (s.openedJob tag c p a i)
  ({ t with jobs := { t.jobs with openList := t.jobs.openList ++ [i] } } : State).answer (.opened tag (s.handleOf i))

/-- OPEN: R9, R10. -/
def execOpen (tag : Word) (cls account : Byte) (s : State) : Out :=
  .next (s.onRequest (fun s =>
    match s.openChecks tag cls account with
    | .error code => s.refuse 0x01 code (.tag tag)
    | .ok (c, p, a, i) => s.openInto tag c p a i))

/-! ### CLOSE, CANCEL, RELEASE -/

/-- R11: the job has reached its threshold. -/
def Job.thresholdMet (j : Job) : Bool := decide (1 ≤ j.threshold) && decide (j.threshold ≤ j.stored)

/-- R11: the job is eligible. -/
def Job.eligible (j : Job) : Bool := !j.isOpen || j.thresholdMet || j.forced

/-- R12 check 2, R29 check 2: the job is DONE or carries a CANCEL or FAIL stop request. -/
def Job.ending (j : Job) : Bool := decide (j.state = .done) || j.stop.any StopRequest.final

/-- R13: what a taken CLOSE does to the job in a slot, whose open field is already no. -/
def State.closed (s : State) (i : Slot) : State :=
  match (s.job i).state with
  | .filling => if (s.job i).delivered = (s.job i).stored then s.endNow i .completed else s.makeReady i
  | .ready =>
    if (s.job i).delivered = (s.job i).stored ∧ (s.job i).inFlight = 0 then s.endNow i .completed else s
  | .held => if (s.job i).delivered = (s.job i).stored then s.endNow i .completed else s
  | .printing =>
    match (s.job i).lane with
    | some l => if s.isComplete i then s.complete i l else s.wake l i
    | none => s
  | .free | .done => s

/-- CLOSE: R12, R13. -/
def execClose (h : Handle) (seq : Half) (s : State) : Out :=
  .next (s.onRequest (fun s =>
    if !s.matches h then s.refuse 0x04 .stale (.handle h)
    else if (s.job h.slot).ending then s
    else if !(s.job h.slot).isOpen then s.refuse 0x04 .wrongState (.handle h)
    else if seq ≠ (s.job h.slot).nextSeq then s.fail h.slot .sequence
    else
      (s.setJob h.slot { s.job h.slot with isOpen := false, nextSeq := (s.job h.slot).nextSeq + 1 }).closed h.slot))

/-- R15: the effect of a CANCEL on the job in a slot. -/
def State.cancelJob (s : State) (h : Handle) : State :=
  match (s.job h.slot).state with
  | .filling | .ready | .held => s.endNow h.slot .cancelled
  | .printing =>
    match (s.job h.slot).stop with
    | some (.fail _) => s.refuse 0x05 .tooLate (.handle h)
    | _ => (s.setJob h.slot { s.job h.slot with isOpen := false }).requestStop h.slot .cancel
  | .done => s.refuse 0x05 .tooLate (.handle h)
  | .free => s

/-- CANCEL: R15, R16. -/
def execCancel (h : Handle) (s : State) : Out :=
  .next (s.onRequest (fun s => if s.matches h then s.cancelJob h else s.refuse 0x05 .stale (.handle h)))

/-- RELEASE: R17. -/
def execRelease (h : Handle) (s : State) : Out :=
  .next (s.onRequest (fun s =>
    if !s.matches h then s.refuse 0x06 .stale (.handle h)
    else if (s.job h.slot).state = .held ∧ (s.job h.slot).holdReason = some .operator then
      if (s.job h.slot).eligible then s.makeReady h.slot
      else s.setJob h.slot { s.job h.slot with state := .filling, holdReason := none }
    else s.refuse 0x06 .wrongState (.handle h)))

/-! ### Content -/

/-- R28: an item of `size` bytes at the stored end needs a new block. -/
def needsBlock (storedEnd size : Nat) : Bool :=
  decide (storedEnd % Config.blockSize = 0) ||
    decide (storedEnd / Config.blockSize ≠ (storedEnd + size - 1) / Config.blockSize)

/-- R26, R28: the head of the free-block list joins the tail of the job's chain with the ordinal that holds the item's
last byte. -/
def State.takeBlock (s : State) (i : Slot) (size : Nat) : Option State :=
  match s.store.free with
  | [] => none
  | b :: free =>
    some (({ s with store := { s.store with free := free } } : State).setJob i
      { s.job i with
        chain := (s.job i).chain ++ [{ block := b, ordinal := ((s.job i).storedEnd + size - 1) / Config.blockSize }] })

/-- R28: the block an item needs, if it needs one. -/
def State.roomFor (s : State) (i : Slot) (size : Nat) : Option State :=
  if needsBlock (s.job i).storedEnd size then s.takeBlock i size else some s

/-- R27: the bytes of an item in the store; the head and the mark by free values (log entry 11). -/
def itemBytes (body : ItemBody) (payload : List Byte) : List Byte :=
  match body with
  | .run len => (List.range 4).map (Config.runHead len) ++ payload
  | .mark m =>
    (List.range 8).map (Config.markByte m.media.val (match m.sides with | .one => 1 | .two => 2)
      (match m.colour with | .mono => 0 | .accent => 1 | .full => 2))

/-- R27: the job record with an item appended at its stored end. -/
def Job.append (body : ItemBody) (j : Job) : Job :=
  { j with items := j.items ++ [{ pos := j.storedEnd, body := body }],
           storedEnd := j.storedEnd + Item.size { pos := j.storedEnd, body := body } }

/-- R28: an item appended at the stored end of the job in a slot; the bytes go to the blocks of its chain, and a taken
block makes the INTAKE UNIT re-evaluate. -/
def State.append (s : State) (i : Slot) (body : ItemBody) (payload : List Byte) : Out :=
  match s.roomFor i (Item.size { pos := (s.job i).storedEnd, body := body }) with
  | none => .fault .storeExhausted
  | some t =>
    match Memory.writeContent (t.job i).chain t.store.dram (t.job i).storedEnd (itemBytes body payload) with
    | none => .fault .contentPositionLost
    | some dram =>
      let u := ({ t with store := { t.store with dram := dram } } : State).setJob i ((t.job i).append body)
      .next (if needsBlock (s.job i).storedEnd (Item.size { pos := (s.job i).storedEnd, body := body }) then
        u.checkIntake.evalGrant else u)

/-- R31: what follows the append of a data run. -/
def State.afterData (s : State) (i : Slot) : State :=
  (s.setJob i { s.job i with nextSeq := (s.job i).nextSeq + 1 }).tellLane i

/-- R32 steps 1 to 3: the job record when a mark at position `pos` has been appended. -/
def Job.marked (pos : Nat) (j : Job) : Job :=
  { j with
    prologueEnd := match j.prologueEnd with
      | some p => some p
      | none => some pos,
    stored := satAdd max32 j.stored 1,
    nextSeq := j.nextSeq + 1,
    restart := match j.restart with
      | .fixed p => .fixed p
      | .following => .fixed pos }

/-- R32 steps 1 to 6. -/
def State.afterMark (s : State) (i : Slot) (pos : Nat) : State :=
  let t := s.setJob i ((s.job i).marked pos)
  let u := if (t.job i).state = .filling ∧ (t.job i).thresholdMet = true then t.makeReady i else t
  let v := u.tellLane i
  if v.intake.state = .stop then v.forcedStart else v

/-- R34: an overrun. -/
def State.overrun (s : State) (i : Slot) : State :=
  (s.setJob i { s.job i with truncated := true }).fail i .overrun

/-- R29: a REFUSE of DATA or MARK needs a free place in the response queue (R157). -/
def State.refuseContent (s : State) (kind : Byte) (code : RefusalCode) (h : Handle) : State :=
  if s.hasRoom then s.refuse kind code (.handle h) else s.discardUntaken

/-- R30: a frame that reaches the INTAKE UNIT with credit outstanding consumes one. -/
def State.consumeCredit (s : State) : State :=
  { s with intake := { s.intake with outstanding := s.intake.outstanding - 1 } }

/-- R29: the disposition of a content frame whose credit has been accounted for; `credited` says that credits were
outstanding when it arrived. -/
def State.settleContent (s : State) (kind : Byte) (h : Handle) (seq : Half) (credited : Bool) (take : State → Out) :
    Out :=
  if !s.matches h then .next (s.refuseContent kind .stale h)
  else if (s.job h.slot).ending then .next s
  else if !(s.job h.slot).isOpen then .next (s.refuseContent kind .wrongState h)
  else if !credited then .next (s.overrun h.slot)
  else if seq ≠ (s.job h.slot).nextSeq then .next (s.fail h.slot .sequence)
  else take s

/-- A next state goes on to `f`; a fault or a refusal stands. -/
def Out.map (o : Out) (f : State → State) : Out :=
  match o with
  | .next s => .next (f s)
  | .fault r => .fault r
  | .refused r => .refused r

/-- R29, R30, R41, log entry 16: a content frame; the fall of outstanding credits is followed by a grant evaluation when
the frame has been settled. -/
def State.intakeFrame (s : State) (kind : Byte) (h : Handle) (seq : Half) (take : State → Out) : Out :=
  if s.supply.halted ∨ ¬s.link.up then .next s
  else if s.intake.outstanding = 0 then s.settleContent kind h seq false take
  else Out.map (s.consumeCredit.settleContent kind h seq true take) State.evalGrant

/-- DATA: R29 to R31, R33, R34. A payload of no possible length is a link error (R156, log entry 32). -/
def execData (h : Handle) (seq : Half) (payload : List Byte) (s : State) : Out :=
  if payloadFits payload then
    s.intakeFrame 0x02 h seq (fun s =>
      Out.map (s.append h.slot (.run payload.length) payload) (fun t => t.afterData h.slot))
  else .next (s.onFrame State.linkError)

/-- MARK: R29, R30, R32 to R34. -/
def execMark (h : Handle) (seq : Half) (media sides colour : Byte) (s : State) : Out :=
  s.intakeFrame 0x03 h seq (fun s =>
    Out.map (s.append h.slot (.mark (markOf media sides colour)) [])
      (fun t => t.afterMark h.slot (s.job h.slot).storedEnd))

end Sys2Proof.Machine
end

