-- ==== Sys2Proof/Machine/LaneControl.lean ====
section
/-!
DEFINITION. LANE CONTROL: ENABLE (R86), DISABLE (R87), INIT (R88), RESUME (R89, R105), COMMAND (R84), CANCEL COMMAND
(R85).
-/
namespace Sys2Proof.Machine

/-- R86, R157: a LANE CONTROL of a known action is admitted, checked for its lane, and handed to it. -/
def State.onLaneControl (s : State) (lane action : Byte) (act : LaneId → State → State) : State :=
  s.onRequest (fun s =>
    match laneOf lane with
    | some l => act l s
    | none => s.refuse 0x30 .badIndex (.laneAction lane action))

/-- R86: the REFUSE of a LANE CONTROL names the lane and the action as received. -/
def State.refuseLane (s : State) (code : RefusalCode) (lane action : Byte) : State :=
  s.refuse 0x30 code (.laneAction lane action)

/-- R86: ENABLE on a lane that is not enabled. -/
def State.enableLane (s : State) (l : LaneId) : State :=
  if (s.lane l).state = .offline then
    s.setLane l { (s.lane l).enter s.time .down with enabled := true }
  else s.setLane l { s.lane l with enabled := true }

/-- ENABLE: R86. -/
def execEnable (lane : Byte) (s : State) : Out :=
  .next (s.onLaneControl lane 0 (fun l s =>
    if (s.lane l).enabled then s.refuseLane .wrongState lane 0 else s.enableLane l))

/-- R87: DISABLE of a lane without a job: OFFLINE at once, with the effective pool brought into line and the passes that
follow. -/
def State.offlineNow (s : State) (l : LaneId) : State :=
  (s.setLane l ((s.lane l).enter s.time .offline).syncPool).dispatch

/-- R87: DISABLE on an enabled lane. -/
def State.disableLane (s : State) (l : LaneId) : State :=
  let t := s.setLane l { s.lane l with enabled := false }
  match (s.lane l).job with
  | none => t.offlineNow l
  | some h => t.requestStop h.slot .requeue

/-- DISABLE: R87. -/
def execDisable (lane : Byte) (s : State) : Out :=
  .next (s.onLaneControl lane 1 (fun l s =>
    if (s.lane l).enabled then s.disableLane l else s.refuseLane .wrongState lane 1))

/-- R88 steps 2 to 4, R91, R112: the lane after INIT: the lane-loss treatment of its record, and the mirror and the delta
flags all 0. -/
def Lane.initialise (now : Time) (x : Lane) : Lane :=
  { x.lose now with mirror := 0, delta := 0 }

/-- R88: INIT on a lane. Its job is treated as on lane loss, but no alert is raised (R155): not LANE DOWN (R88 step 1, R97
step 5), and not BUDGET HOLD for a job with a HOLD request, where R155 and the table of R97 differ (log entry 42). -/
def State.initLane (s : State) (l : LaneId) : State :=
  let t := s.loseJob l
  ((t.setLane l ((t.lane l).initialise t.time)).dispatch).checkFallen s

/-- INIT: R88. -/
def execInit (lane : Byte) (s : State) : Out := .next (s.onLaneControl lane 2 (fun l s => s.initLane l))

/-- R105: RESUME on a lane that is JAMMED with stall-caused yes. -/
def State.resumeLane (s : State) (l : LaneId) : State :=
  let t := s.setLane l { s.lane l with stallCaused := false }
  if StatusField.coverOpen.of (s.lane l).mirror || StatusField.panelOffline.of (s.lane l).mirror then t
  else t.recover l

/-- RESUME: R89, R105. -/
def execResume (lane : Byte) (s : State) : Out :=
  .next (s.onLaneControl lane 3 (fun l s =>
    if (s.lane l).state = .jammed ∧ (s.lane l).stallCaused = true then s.resumeLane l
    else s.refuseLane .wrongState lane 3))

/-- COMMAND: R84. -/
def execCommand (lane code : Byte) (s : State) : Out :=
  .next (s.onLaneControl lane 4 (fun l s =>
    if (s.lane l).state = .offline ∨ (s.lane l).state = .down then s.refuseLane .wrongState lane 4
    else
      match (s.lane l).command with
      | none => s.setLane l { s.lane l with command := some code }
      | some _ => s.refuseLane .busy lane 4))

/-- CANCEL_COMMAND: R85. -/
def execCancelCommand (lane : Byte) (s : State) : Out :=
  .next (s.onLaneControl lane 5 (fun l s =>
    match (s.lane l).command with
    | some _ => s.setLane l { s.lane l with command := none }
    | none => s.refuseLane .tooLate lane 5))

end Sys2Proof.Machine
end

