-- ==== Sys2Proof/Machine/LaneEvents.lean ====
section
/-!
DEFINITION. What a LANE ENGINE does at its own moments: polls (R95, R96), its transmitter (R68, R75, R84), lane loss
(R97), the stall timer (R107) and the recovery timer (R104). A command for a moment that has not come has no effect (log
entry 5).
-/
namespace Sys2Proof.Machine

/-- R137: a lane acts while the part runs, and only when its moment has come. -/
def State.onLane (s : State) (l : LaneId) (ready : Lane → Bool) (act : Lane → State → State) : State :=
  s.whenRunning (fun s => if ready (s.lane l) then act (s.lane l) s else s)

/-- R95: the poll timer expires: a POLL is due, and the timer starts again with the interval of the present state. -/
def Lane.pollExpired (now : Time) (l : Lane) : Lane :=
  { l with pollDue := true, pollTimer := l.state.pollInterval.map (Timer.from now) }

/-- POLL_TIMER_EXPIRY: R95. -/
def execPollTimerExpiry (lane : LaneId) (s : State) : Out :=
  .next (s.onLane lane (fun x => Timer.due s.time x.pollTimer) (fun x s => s.setLane lane (x.pollExpired s.time)))

/-- R68: a due POLL is the first source ready; a lane in OFFLINE sends none (R66). -/
def Lane.pollReady (l : Lane) : Bool := l.pollDue && l.command.isNone && decide (l.state ≠ .offline)

/-- R96: the transmitter takes a POLL. -/
def Lane.sendPoll (l : Lane) : Lane :=
  { l with pollDue := false, misses := if l.pollOut then min Config.lostAt (l.misses + 1) else l.misses, pollOut := true,
           lastToken := some .poll }

/-- R96: the printer is lost at a miss count of 3, in every state but DOWN and OFFLINE. -/
def Lane.isLost (l : Lane) : Bool :=
  decide (l.misses = Config.lostAt) && decide (l.state ≠ .down) && decide (l.state ≠ .offline)

/-- R96, R97: the transmitter takes a POLL; when it raises the miss count to 3 the lane is lost in the same operation. -/
def State.pollSent (s : State) (l : LaneId) : State :=
  let t := s.setLane l (s.lane l).sendPoll
  if (t.lane l).isLost then t.lose l else t

/-- POLL_SEND: R96, R97. -/
def execPollSend (lane : LaneId) (s : State) : Out :=
  .next (s.onLane lane Lane.pollReady (fun _ s => s.pollSent lane))

/-- R84: the transmitter takes the pending command, and the slot empties. -/
def Lane.sendCommand (l : Lane) : Lane :=
  match l.command with
  | some code => { l with command := none, lastToken := some (.command code) }
  | none => l

/-- COMMAND_SEND: R84. -/
def execCommandSend (lane : LaneId) (s : State) : Out :=
  .next (s.onLane lane (fun x => x.command.isSome) (fun x s => s.setLane lane x.sendCommand))

/-- R68, R75: a lane reads in SENDING, at a gap between tokens. -/
def Lane.readReady (l : Lane) : Bool := decide (l.state = .sending) && l.gap

/-- LANE_READ: R75. -/
def execLaneRead (lane : LaneId) (s : State) : Out :=
  if s.supply.halted then .next s
  else
    match (s.lane lane).readReady, (s.lane lane).job with
    | true, some h => s.actOnRead lane h
    | _, _ => .next s

/-- R68: the job stream's oldest token can be taken: nothing of higher priority is ready, and the lane is not PAUSED
(R94). -/
def Lane.streamReady (l : Lane) : Bool := l.command.isNone && !l.pollDue && decide (l.state ≠ .paused)

/-- R66: a token of the job stream as it leaves. -/
def StreamToken.sent : StreamToken → LaneToken
  | .jobBegin tag resume => .jobBegin tag resume
  | .jobFinish => .jobFinish

/-- R68: the transmitter takes the oldest token that waits in the job stream. -/
def Lane.takeStream (l : Lane) : Lane :=
  match l.stream with
  | t :: rest => { l with stream := rest, lastToken := some t.sent }
  | [] => l

/-- JOB_STREAM_TOKEN_TAKEN: R68. -/
def execJobStreamTokenTaken (lane : LaneId) (s : State) : Out :=
  .next (s.onLane lane Lane.streamReady (fun x s => s.setLane lane x.takeStream))

/-- R96: the due POLL is the third to be missed. -/
def Lane.thirdMiss (l : Lane) : Bool := l.pollReady && l.sendPoll.isLost

/-- LANE_LOSS: R97, at the third missed poll: the POLL that raises the miss count to 3 is taken, or, on a lane whose count
stands at 3, the treatment alone is made (log entry 8). -/
def execLaneLoss (lane : LaneId) (s : State) : Out :=
  .next (s.onLane lane (fun x => x.isLost || x.thirdMiss)
    (fun x s => if x.isLost then s.lose lane else s.pollSent lane))

/-- R107: the stall timer has reached its limit in a state it runs in. -/
def Lane.stalled (now : Time) (l : Lane) : Bool := Timer.due now l.stallTimer && l.state.stallRuns

/-- R107 step 2: a lane left JAMMED becomes stall-caused; one left OFFLINE does not. -/
def State.markStall (s : State) (l : LaneId) : State :=
  if (s.lane l).state = .jammed then s.setLane l { s.lane l with stallCaused := true } else s

/-- R107: a stall expiry. -/
def State.stallExpired (s : State) (l : LaneId) : State :=
  let t := ((s.jam l).markStall l).raiseLane l .stall
  { t with meter := t.meter.countStall l }

/-- STALL_EXPIRY: R107. -/
def execStallExpiry (lane : LaneId) (s : State) : Out :=
  .next (s.onLane lane (Lane.stalled s.time) (fun _ s => s.stallExpired lane))

/-- R104: the recovery timer of a lane in RECOVERING has expired. -/
def Lane.recovered (now : Time) (l : Lane) : Bool := Timer.due now l.recoveryTimer && decide (l.state = .recovering)

/-- R104: the lane restarts the job it carries. -/
def State.recoveryExpired (s : State) (l : LaneId) : State :=
  match (s.lane l).job with
  | some h => s.restart l h.slot
  | none => s

/-- RECOVERY_TIMER_EXPIRY: R104. -/
def execRecoveryTimerExpiry (lane : LaneId) (s : State) : Out :=
  .next (s.onLane lane (Lane.recovered s.time) (fun _ s => s.recoveryExpired lane))

end Sys2Proof.Machine
end

