-- ==== Sys2Proof/Machine/Formats.lean ====
section
/-!
DEFINITION. What leaves the part, as bytes: the table rows of a REPLY (R24, R50, R90, R111, R125, R150, R151, R163, R172),
the uplink frames (R158, R170) and the lane tokens (section 10.3).
-/
namespace Sys2Proof.Machine

/-- R169: a number as `n` bytes, most significant first. -/
def beBytes : Nat → Nat → List Byte
  | 0, _ => []
  | n + 1, x => BitVec.ofNat 8 (x / 256 ^ n) :: beBytes n x

/-- R169: an optional small number, 0xFF when absent. -/
def optByte {n : Nat} : Option (Fin n) → Byte
  | some x => BitVec.ofNat 8 x.val
  | none => 0xFF

/-- A byte whose bits, from bit 0 up, are the flags listed. -/
def flagByte : List Bool → Nat
  | [] => 0
  | b :: bs => (if b then 1 else 0) + 2 * flagByte bs

/-! ### Codes (section 10.4) -/

/-- R172: R3's order. -/
def JobState.code : JobState → Byte
  | .free => 0
  | .filling => 1
  | .ready => 2
  | .held => 3
  | .printing => 4
  | .done => 5

/-- R172: 0 absent, OPERATOR 1, BUDGET 2. -/
def holdCode : Option HoldReason → Byte
  | none => 0
  | some .operator => 1
  | some .budget => 2

/-- R172: 0 absent, CANCEL 1, FAIL 2, HOLD 3, REQUEUE 4. -/
def stopCode : Option StopRequest → Byte
  | none => 0
  | some .cancel => 1
  | some (.fail _) => 2
  | some .hold => 3
  | some .requeue => 4

/-- R170: SEQUENCE 1, OVERRUN 2, LINK LOST 3. -/
def FailReason.code : FailReason → Byte
  | .sequence => 1
  | .overrun => 2
  | .linkLost => 3

/-- R172: the failure reason of a FAIL stop request or a FAILED outcome, 0 for none. -/
def failCode (stop : Option StopRequest) (outcome : Option JobOutcome) : Byte :=
  match outcome, stop with
  | some (.failed r), _ => r.code
  | _, some (.fail r) => r.code
  | _, _ => 0

/-- R172: 0 absent, COMPLETED 1, CANCELLED 2, FAILED 3. -/
def outcomeCode : Option JobOutcome → Byte
  | none => 0
  | some .completed => 1
  | some .cancelled => 2
  | some (.failed _) => 3

/-- R170: the outcome byte of a JOB END: COMPLETED 0, CANCELLED 1, FAILED 2. -/
def JobEnd.outcomeByte (e : JobEnd) : Byte := outcomeCode e.outcome - 1

/-- R172: R72's order, OFFLINE 0 to RECOVERING 8. -/
def LaneState.code : LaneState → Byte
  | .offline => 0
  | .down => 1
  | .idle => 2
  | .sending => 3
  | .starved => 4
  | .paused => 5
  | .draining => 6
  | .jammed => 7
  | .recovering => 8

/-- R172: R140's order, JAM 0 to RETENTION LOST 12. -/
def AlertKind.code : AlertKind → Byte
  | .jam => 0
  | .stall => 1
  | .laneDown => 2
  | .paperOut => 3
  | .coverOpen => 4
  | .printerFault => 5
  | .budgetHold => 6
  | .jamCleared => 7
  | .laneUp => 8
  | .paperLow => 9
  | .tonerLow => 10
  | .phantomSheet => 11
  | .retentionLost => 12

/-- R172: URGENT 0, NOTICE 1, INFO 2. -/
def AlertClass.code : AlertClass → Byte
  | .urgent => 0
  | .notice => 1
  | .info => 2

/-- R172: URGENT 0, NOTICE 1, DARK 3. -/
def Display.code : Display → Byte
  | .urgent => 0
  | .notice => 1
  | .dark => 3

/-- R172: R158's order, UNKNOWN KIND 0 to TOO LATE 11. -/
def RefusalCode.code : RefusalCode → Byte
  | .unknownKind => 0
  | .badTable => 1
  | .badIndex => 2
  | .readOnly => 3
  | .stale => 4
  | .noSlot => 5
  | .noRoute => 6
  | .noAccount => 7
  | .duplicateTag => 8
  | .busy => 9
  | .wrongState => 10
  | .tooLate => 11

/-- Section 10.2: an alert source as a type and a number. -/
def AlertSource.bytes : AlertSource → List Byte
  | .lane l => [0, BitVec.ofNat 8 l.val]
  | .account a => [1, BitVec.ofNat 8 a.val]
  | .system => [2, 0]

/-- R32: the sides of a mark, 1 or 2. -/
def Sides.byte : Sides → Byte
  | .one => 1
  | .two => 2

/-- R32: the colour of a mark, 0 to 2. -/
def Colour.byte : Colour → Byte
  | .mono => 0
  | .accent => 1
  | .full => 2

/-! ### Table rows (R172) -/

/-- R163: the SYSTEM row. -/
def State.systemRow (s : State) : List Byte :=
  beBytes 4 s.intake.high ++ beBytes 4 s.intake.low ++ [BitVec.ofNat 8 s.alerts.office.val] ++
    beBytes 1 (flagByte [s.meter.bank.retentionLost, s.alerts.overflow, s.link.overflow]) ++
    beBytes 4 s.store.blockCount ++ beBytes 4 s.freeBlocks ++ beBytes 1 s.intake.outstanding ++
    [(match s.intake.state with | .run => 0 | .stop => 1 : Byte)] ++ wordBytes s.time ++ beBytes 2 s.link.errors

/-- R48: a CLASS row. -/
def ClassRow.bytes (r : ClassRow) : List Byte :=
  [optByte r.pool, BitVec.ofNat 8 r.priority.val, yesByte r.holdOnOpen, BitVec.ofNat 8 (r.threshold.getD 0)]

/-- R50: a POOL row. -/
def State.poolBytes (s : State) (p : PoolId) : List Byte :=
  [BitVec.ofNat 8 (s.pool p).threshold, optByte (s.pool p).fallback, yesByte (s.poolUp p),
    BitVec.ofNat 8 (s.pool p).rotor.val, BitVec.ofNat 8 (s.members p)]

/-- R70: a LANE CONFIG row. -/
def Lane.configBytes (l : Lane) : List Byte :=
  [yesByte l.enabled, optByte l.pool, BitVec.ofNat 8 l.zone.val] ++ beBytes 2 l.stallCeiling ++
    beBytes 2 l.stallFloor ++ beBytes 1 l.recoveryDelay

/-- R111: the recovery time left in 100 ms steps, rounded up. -/
def recoveryLeft (now : Time) : Option Timer → Nat
  | some t => (t.length - since now t.start + 99) / 100
  | none => 0

/-- R172: the send position's 4 bytes; a free value from 2^32 on (log entry 27). -/
def positionBytes (p : Nat) : List Byte :=
  if p < 4294967296 then beBytes 4 p else wordBytes (Config.widePosition p)

/-- R90, R172: the handle of a LANE STATE row; a free value while the lane carries no job (log entry 38). -/
def handleBytes : Option Handle → List Byte
  | some h => h.bytes
  | none => [Config.absentHandle 0, Config.absentHandle 1]

/-- R90, R111: a LANE STATE row. -/
def Lane.stateBytes (now : Time) (l : Lane) : List Byte :=
  [l.state.code, optByte l.effPool] ++
    beBytes 1 (flagByte [l.prologueDue, l.inSheet, l.stallCaused, l.enabled, l.pollOut, l.capture.isSome,
      l.stallTimer.isSome, l.recoveryTimer.isSome]) ++
    [yesByte l.job.isSome] ++ handleBytes l.job ++ positionBytes l.sendPos ++ beBytes 1 l.credits ++
    beBytes 1 l.inFlight.length ++ beBytes 4 ((l.inFlight.head?.map InFlight.sheet).getD 0) ++
    beBytes 4 ((l.inFlight.getLast?.map InFlight.sheet).getD 0) ++ [yesByte l.command.isSome, l.command.getD 0] ++
    [l.mirror, l.delta] ++ beBytes 1 l.misses ++ beBytes 2 (l.capture.getD 0) ++
    beBytes 2 ((l.stallTimer.map Timer.length).getD 0) ++ beBytes 1 (recoveryLeft now l.recoveryTimer)

/-- R125: a LANE COUNTERS row. -/
def LaneCounters.bytes (c : LaneCounters) : List Byte :=
  beBytes 4 c.delivered ++ beBytes 4 c.spoiled ++ beBytes 6 c.spoiledCharge ++ beBytes 4 c.jams ++ beBytes 4 c.stalls ++
    beBytes 4 c.phantoms

/-- R113: a TARIFF row. -/
def TariffRow.bytes (t : TariffRow) : List Byte :=
  beBytes 2 t.w0 ++ beBytes 2 t.w1 ++ beBytes 2 t.w2 ++ beBytes 1 t.duplex

/-- R121, R169: an ACCOUNT row. -/
def AccountRow.bytes (a : AccountRow) : List Byte :=
  [yesByte a.enabled] ++ beBytes 1 a.factor ++ [yesByte a.budget.isSome] ++ beBytes 4 (a.budget.getD 0)

/-- R24: a JOB row. -/
def Job.bytes (j : Job) : List Byte :=
  [j.gen, j.state.code, holdCode j.holdReason, stopCode j.stop, failCode j.stop j.outcome, outcomeCode j.outcome] ++
    wordBytes j.tag ++ [BitVec.ofNat 8 j.cls.val, BitVec.ofNat 8 j.pool.val, BitVec.ofNat 8 j.priority.val] ++
    beBytes 1 j.threshold ++ [BitVec.ofNat 8 j.account.val] ++
    beBytes 1 (flagByte [j.isOpen, j.split, j.forced, j.truncated]) ++ halfBytes j.nextSeq ++
    beBytes 4 j.chain.length ++ beBytes 4 j.stored ++ beBytes 4 j.nextUnsent ++ beBytes 1 j.inFlight ++
    beBytes 4 j.delivered ++ beBytes 4 j.spoiled ++ beBytes 6 j.charge ++ [optByte j.lane] ++ wordBytes j.readySince

/-- R150: an ALERT row; a row beyond the queue's length reads 0. -/
def alertBytes : Option AlertEntry → List Byte
  | some e =>
    [1] ++ e.source.bytes ++ [e.kind.code, e.cls.code, BitVec.ofNat 8 e.zone.val] ++ wordBytes e.first ++
      wordBytes e.last ++ beBytes 1 e.occurrences ++ beBytes 1 (flagByte [e.sent, e.inFlight, e.raisedInFlight])
  | none => List.replicate 16 0

/-- R151: a ZONE row. -/
def Zone.bytes (z : Zone) : List Byte :=
  beBytes 1 z.urgentOn ++ beBytes 1 z.urgentPeriod ++ beBytes 1 z.noticeOn ++ beBytes 1 z.noticePeriod ++
    beBytes 1 z.escalation ++ [z.display.code, yesByte z.escalated] ++ beBytes 1 z.count

/-- Row `r` of a table as its owner has it now (R160, R161); a row that the table does not have is empty. -/
def State.rowBytes (s : State) (t : Table) (r : Nat) : List Byte :=
  match t with
  | .system => s.systemRow
  | .cls => ((finOf 64 r).map (fun c => s.classes[c].bytes)).getD []
  | .pool => ((finOf 8 r).map s.poolBytes).getD []
  | .laneConfig => ((finOf 16 r).map (fun l => (s.lane l).configBytes)).getD []
  | .laneState => ((finOf 16 r).map (fun l => (s.lane l).stateBytes s.time)).getD []
  | .laneCounters => ((finOf 16 r).map (fun l => s.meter.bank.counters[l].bytes)).getD []
  | .tariff => ((finOf 16 r).map (fun m => s.meter.tariff[m].bytes)).getD []
  | .account => ((finOf 128 r).map (fun a => s.meter.accounts[a].bytes)).getD []
  | .job => ((finOf 256 r).map (fun i => (s.job i).bytes)).getD []
  | .alert => alertBytes s.alerts.queue[r]?
  | .zone => ((finOf 4 r).map (fun z => (s.zone z).bytes)).getD []

/-! ### Uplink frames (R158, R170) -/

/-- Section 10.2: the 4 item bytes of a REFUSE, left-aligned. -/
def RefuseItem.bytes : RefuseItem → List Byte
  | .handle h => h.bytes ++ [0, 0]
  | .tag t => wordBytes t
  | .tableRow t f => [t, f, 0, 0]
  | .laneAction l a => [l, a, 0, 0]
  | .account f => [f, 0, 0, 0]
  | .alertKey t n k => [t, n, k, 0]
  | .zone z => [z, 0, 0, 0]
  | .nothing => [0, 0, 0, 0]

/-- Section 10.2: an 18-byte record of a METER READ REPLY. -/
def MeterRecord.bytes (r : MeterRecord) : List Byte :=
  [BitVec.ofNat 8 r.account.val] ++ beBytes 6 r.total ++ beBytes 4 r.sheets ++ beBytes 6 r.reserved ++
    [yesByte r.saturated]

/-- R170: the kind and the body of an uplink frame (of a REPLY, what has been serialised of it). The count of a METER READ
REPLY is that of its records, 1 to 16 (log entry 46, DEDUCED). -/
def UplinkFrame.body : UplinkFrame → Byte × List Byte
  | .credit n => (0x81, beBytes 1 n)
  | .response (.opened tag h) => (0x82, wordBytes tag ++ h.bytes)
  | .response (.refuse kind code item) => (0x83, [kind, code.code] ++ item.bytes)
  | .getReply t first run rows => (0x84, [0, t.code, first] ++ beBytes 1 run.length ++ rows.flatten)
  | .meterReply first range _ records coherent =>
    (0x84, [1, first] ++ beBytes 1 range.length ++ (records.map MeterRecord.bytes).flatten ++
      (coherent.map yesByte).toList)
  | .alert a =>
    (0x85, a.source.bytes ++ [a.kind.code, a.kind.cls.code, BitVec.ofNat 8 a.zone.val] ++ wordBytes a.first ++
      wordBytes a.last ++ beBytes 1 a.occurrences ++ [yesByte a.overflow])
  | .jobEnd e =>
    (0x86, wordBytes e.tag ++ e.handle.bytes ++ [e.outcomeByte, failCode none e.outcome] ++ beBytes 4 e.stored ++
      beBytes 4 e.delivered ++ beBytes 4 e.spoiled ++ beBytes 6 e.charge ++
      beBytes 1 (flagByte [e.split, e.forced, e.truncated]))

/-- R169: the bytes of an uplink frame. -/
def UplinkFrame.bytes (f : UplinkFrame) : List Byte := framed f.body.1 f.body.2

/-! ### Lane tokens (R66, section 10.3) -/

/-- Section 10.3: the type and the body of a token to the printer. The resume flag of a JOB BEGIN is sent as 1 when it is
set and 0 when it is clear (log entry 47, DEDUCED). -/
def LaneToken.body : LaneToken → Byte × List Byte
  | .poll => (0x01, [])
  | .jobBegin tag resume => (0x02, wordBytes tag ++ [yesByte resume])
  | .data bytes => (0x03, bytes)
  | .sheetBegin tag sheet m =>
    (0x04, halfBytes tag ++ beBytes 4 sheet ++ [BitVec.ofNat 8 m.media.val, m.sides.byte, m.colour.byte])
  | .jobFinish => (0x05, [])
  | .command code => (0x06, [code])

/-- Section 10.3: the bytes of a token to the printer. -/
def LaneToken.bytes (t : LaneToken) : List Byte := framed t.body.1 t.body.2

end Sys2Proof.Machine
end

