-- ==== Sys2Proof/Machine/TableCommands.lean ====
section
/-!
DEFINITION. SET (R162 with each table's own rule), GET (R161), METER READ (R131) and budget re-evaluation (R130).
-/
namespace Sys2Proof.Machine

/-! ### Budget re-evaluation -/

/-- R130: the job in a slot is HELD BUDGET for the account. -/
def State.heldFor (s : State) (a : AccountId) (i : Slot) : Bool :=
  decide ((s.job i).state = .held) && decide ((s.job i).holdReason = some .budget) && decide ((s.job i).account = a)

/-- R130: the re-evaluation of one slot; the arbiter is told at once, before the next slot is looked at (log entry 45). -/
def State.reevaluateSlot (a : AccountId) (s : State) (i : Slot) : State :=
  if s.heldFor a i then
    match (s.job i).markAt (s.job i).restartPos with
    | some m => if s.meter.passes a (s.meter.charge a m) then s.makeReady i else s
    | none => s
  else s

/-- R130: the budget re-evaluation of an account, in ascending slot order. -/
def State.reevaluate (s : State) (a : AccountId) : State := (List.finRange 256).foldl (State.reevaluateSlot a) s

/-! ### SET -/

/-- R162: the check of the first row and the count of a SET of a writable table. -/
def State.setTable (s : State) (t : Table) (first count : Byte) (store : State → State) : State :=
  if badIndex t.rows first count then s.refuse 0x10 .badIndex (.tableRow t.code first) else store s

/-- R40, R163: the SYSTEM row as stored, before the effects of a changed watermark. -/
def State.storeSystem (s : State) (w : SystemWrite) : State :=
  { s with
    intake := { s.intake with
      high := highOf s.store.blockCount w.high.toNat,
      low := lowOf (highOf s.store.blockCount w.high.toNat) w.low.toNat },
    alerts := { s.alerts with office := zoneOf w.office, overflow := stickyAfter s.alerts.overflow w.alertOverflow },
    link := { s.link with overflow := stickyAfter s.link.overflow w.responseOverflow },
    meter := { s.meter with bank := { s.meter.bank with
      retentionLost := stickyAfter s.meter.bank.retentionLost w.retentionLost } } }

/-- R40: a SET that changes a stored watermark checks the intake state and evaluates a grant. -/
def State.setSystemRow (s : State) (w : SystemWrite) : State :=
  let t := s.storeSystem w
  if t.intake.high ≠ s.intake.high ∨ t.intake.low ≠ s.intake.low then t.checkIntake.evalGrant else t

/-- SET_SYSTEM: R162, R163. -/
def execSetSystem (first count : Byte) (rows : List SystemWrite) (s : State) : Out :=
  .next (s.onSized (setFits Table.system.rowSize count rows.length) (fun s =>
    s.setTable .system first count (fun s =>
      (matched 1 first count rows).foldl (fun t p => t.setSystemRow p.2) s)))

/-- R48: one CLASS row stored. -/
def State.storeClass (s : State) (p : ClassId × ClassWrite) : State :=
  { s with classes := s.classes.set p.1.val (ClassRow.store p.2) p.1.isLt }

/-- SET_CLASS: R48, R49, R162. -/
def execSetClass (first count : Byte) (rows : List ClassWrite) (s : State) : Out :=
  .next (s.onSized (setFits Table.cls.rowSize count rows.length) (fun s =>
    s.setTable .cls first count (fun s => (matched 64 first count rows).foldl State.storeClass s)))

/-- R50: one POOL row stored. -/
def State.storePool (s : State) (p : PoolId × PoolWrite) : State :=
  s.setPool p.1 ((s.pool p.1).store p.1 p.2)

/-- R51: the fallback of some pool differs. -/
def fallbacksDiffer (s t : State) : Bool :=
  (List.finRange 8).any (fun p => decide ((s.pool p).fallback ≠ (t.pool p).fallback))

/-- R51: POOL rows stored; a changed fallback runs the passes it opens. -/
def State.setPools (s : State) (rows : List (PoolId × PoolWrite)) : State :=
  let t := rows.foldl State.storePool s
  if fallbacksDiffer s t then t.dispatch else t

/-- SET_POOL: R50, R51, R162. -/
def execSetPool (first count : Byte) (rows : List PoolWrite) (s : State) : Out :=
  .next (s.onSized (setFits Table.pool.rowSize count rows.length) (fun s =>
    s.setTable .pool first count (fun s => s.setPools (matched 8 first count rows))))

/-- R53, R70: one LANE CONFIG row stored; the effective pool follows at once on a lane without a job. -/
def State.storeLane (s : State) (p : LaneId × LaneWrite) : State :=
  s.setLane p.1 ((s.lane p.1).store p.2).syncPool

/-- R53: the effective pool of some lane differs. -/
def effPoolsDiffer (s t : State) : Bool :=
  (List.finRange 16).any (fun l => decide ((s.lane l).effPool ≠ (t.lane l).effPool))

/-- R53, R54: LANE CONFIG rows stored; a changed effective pool runs the passes it makes possible. -/
def State.setLanes (s : State) (rows : List (LaneId × LaneWrite)) : State :=
  let t := rows.foldl State.storeLane s
  if effPoolsDiffer s t then t.dispatch else t

/-- SET_LANE_CONFIG: R53, R70, R71, R162. -/
def execSetLaneConfig (first count : Byte) (rows : List LaneWrite) (s : State) : Out :=
  .next (s.onSized (setFits Table.laneConfig.rowSize count rows.length) (fun s =>
    s.setTable .laneConfig first count (fun s => s.setLanes (matched 16 first count rows))))

/-- R113: one TARIFF row stored. -/
def State.storeTariff (s : State) (p : MediaId × TariffWrite) : State :=
  { s with meter := { s.meter with tariff := s.meter.tariff.set p.1.val (TariffRow.store p.2) p.1.isLt } }

/-- SET_TARIFF: R113, R116, R162. -/
def execSetTariff (first count : Byte) (rows : List TariffWrite) (s : State) : Out :=
  .next (s.onSized (setFits Table.tariff.rowSize count rows.length) (fun s =>
    s.setTable .tariff first count (fun s => (matched 16 first count rows).foldl State.storeTariff s)))

/-- R121: one ACCOUNT row stored. -/
def State.storeAccount (s : State) (p : AccountId × AccountWrite) : State :=
  { s with meter := { s.meter with accounts := s.meter.accounts.set p.1.val (AccountRow.store p.2) p.1.isLt } }

/-- R122: the factor or the budget of an account differs. -/
def pricingDiffers (s t : State) (a : AccountId) : Bool :=
  decide (s.meter.accounts[a].factor ≠ t.meter.accounts[a].factor) ||
    decide (s.meter.accounts[a].budget ≠ t.meter.accounts[a].budget)

/-- R121, R122: ACCOUNT rows stored; an account whose factor or budget changed is re-evaluated, in run order (log entry
30). -/
def State.setAccounts (s : State) (rows : List (AccountId × AccountWrite)) : State :=
  let t := rows.foldl State.storeAccount s
  ((rows.map Prod.fst).filter (pricingDiffers s t)).foldl State.reevaluate t

/-- SET_ACCOUNT: R121, R122, R162. -/
def execSetAccount (first count : Byte) (rows : List AccountWrite) (s : State) : Out :=
  .next (s.onSized (setFits Table.account.rowSize count rows.length) (fun s =>
    s.setTable .account first count (fun s => s.setAccounts (matched 128 first count rows))))

/-- R154: what a changed escalation periods setting does at once: 0 ends escalation, a reached one escalates. -/
def Zone.escalationSet (old new : Zone) : Zone :=
  if old.escalation = new.escalation then new
  else if new.escalation = 0 then { new with escalated := false }
  else new.escalate

/-- R151, R154: one ZONE row stored, with the escalation check of a changed setting. -/
def State.storeZone (s : State) (p : ZoneId × ZoneWrite) : State :=
  { s with alerts := s.alerts.setZone p.1 ((s.zone p.1).escalationSet ((s.zone p.1).store p.2)) }

/-- SET_ZONE: R151, R154, R162. -/
def execSetZone (first count : Byte) (rows : List ZoneWrite) (s : State) : Out :=
  .next (s.onSized (setFits Table.zone.rowSize count rows.length) (fun s =>
    s.setTable .zone first count (fun s => (matched 4 first count rows).foldl State.storeZone s)))

/-- R162: the refusal of a SET that names no table or a read-only table. -/
def setRefusal (t : SetTarget) (first count : Byte) : RefusalCode :=
  match t with
  | .unknown _ => .badTable
  | .laneState => if badIndex Table.laneState.rows first count then .badIndex else .readOnly
  | .laneCounters => if badIndex Table.laneCounters.rows first count then .badIndex else .readOnly
  | .job => if badIndex Table.job.rows first count then .badIndex else .readOnly
  | .alert => if badIndex Table.alert.rows first count then .badIndex else .readOnly

/-- SET of no table or of a read-only table: R162. -/
def execSetOther (table : SetTarget) (first count : Byte) (s : State) : Out :=
  .next (s.onSized (table.fits count) (fun s =>
    s.refuse 0x10 (setRefusal table first count) (.tableRow table.code first)))

/-! ### GET and METER READ -/

/-- R160: a REPLY joins the tail of the reply queue. -/
def State.reply (s : State) (r : Reply) : State :=
  { s with link := { s.link with replies := s.link.replies ++ [r] } }

/-- R160: the reply queue is full. -/
def State.repliesFull (s : State) : Bool := decide (Config.replyPlaces ≤ s.link.replies.length)

/-- R131: a METER READ REPLY is in the reply queue. -/
def State.meterReplyQueued (s : State) : Bool :=
  s.link.replies.any (fun r => match r with | .meters .. => true | .rows .. => false)

/-- GET: R161. -/
def execGet (table first count : Byte) (s : State) : Out :=
  .next (s.onRequest (fun s =>
    match Table.ofCode table with
    | none => s.refuse 0x11 .badTable (.tableRow table first)
    | some t =>
      if badIndex t.rows first count then s.refuse 0x11 .badIndex (.tableRow table first)
      else if s.repliesFull then s.refuse 0x11 .busy (.tableRow table first)
      else s.reply (.rows t first (runOf t.rows first.toNat count.toNat))))

/-- R131: the hold range of a METER READ. -/
def holdRange (first count : Byte) : List AccountId := (runOf 128 first.toNat count.toNat).filterMap (finOf 128)

/-- METER_READ: R131. -/
def execMeterRead (first count : Byte) (zero : Bool) (s : State) : Out :=
  .next (s.onRequest (fun s =>
    if badIndex 128 first count then s.refuse 0x12 .badIndex (.account first)
    else if s.meterReplyQueued then s.refuse 0x12 .busy (.account first)
    else if s.repliesFull then s.refuse 0x12 .busy (.account first)
    else
      ({ s with meter := { s.meter with hold := some (holdRange first count), held := [] } } : State).reply
        (.meters first (holdRange first count) zero)))

end Sys2Proof.Machine
end

