-- ==== Sys2Proof/Machine/LinkCommands.lean ====
section
/-!
DEFINITION. The LINK PORT's own commands: RESET (R168), UNKNOWN KIND (R86, R157), LINK ERROR (R156), the uplink
transmitter (R164, R165) with serialising (R133, R160) and the handovers (R22, R42, R135, R146, R159), LINK DOWN (R166)
and LINK UP (R167).
-/
namespace Sys2Proof.Machine

/-! ### RESET -/

/-- R136: a hold in progress is abandoned. -/
def State.abandonHold (s : State) : State := { s with meter := s.meter.abandon }

/-- R168: every block returns to its power-on state with the meter bank kept whole; the block count is kept (R25), and the
DRAM's bytes stay (log entry 10). -/
def State.softReset (s : State) : State :=
  let t := s.abandonHold
  let u := State.cleared s.store.blockCount s.straps s.link.lineInSync t.meter.bank
  { u with
    pending := s.pending, supply := s.supply, choices := s.choices,
    store := { u.store with dram := s.store.dram } }.evalGrant

/-- RESET: R168. -/
def execReset (s : State) : Out := .next (s.onFrame State.softReset)

/-! ### UNKNOWN KIND and LINK ERROR -/

/-- R86, R157: what a frame of no known kind, or a LANE CONTROL of no known action, is answered with (log entries 33
and 48). -/
def State.refuseUnknown (s : State) (form : UnknownForm) : State :=
  match form with
  | .frame kind => s.refuse kind .unknownKind .nothing
  | .laneAction lane action =>
    match laneOf lane with
    | some _ => s.refuse 0x30 .unknownKind (.laneAction lane action)
    | none => s.refuse 0x30 .badIndex (.laneAction lane action)

/-- UNKNOWN_KIND: R86, R157. -/
def execUnknownKind (form : UnknownForm) (s : State) : Out := .next (s.onRequest (fun s => s.refuseUnknown form))

/-- LINK_ERROR: R156. -/
def execLinkError (s : State) : Out := .next (s.onFrame State.linkError)

/-! ### The uplink transmitter -/

/-- The frame in flight. -/
def State.putTx (s : State) (f : UplinkFrame) : State := { s with link := { s.link with tx := some f } }

/-- R164: the transmitter acts only while the part runs and the link is UP. -/
def State.whenUp (s : State) (act : State → State) : State := s.whenRunning (fun s => if s.link.up then act s else s)

/-- R42, R165: the CREDIT frame of `n` is started; its count is fixed and the waiting place is taken. -/
def State.startCredit (s : State) (n : Nat) : State :=
  ({ s with intake := { s.intake with waiting := none } } : State).putTx (.credit n)

/-- R145: the ALERT frame of a candidate is started. -/
def State.startAlert (s : State) (e : AlertEntry) : State :=
  ({ s with alerts := s.alerts.startFrame e } : State).putTx (.alert (e.frame s.alerts.overflow))

/-- R160: a REPLY as it becomes in flight, nothing serialised. -/
def Reply.start : Reply → UplinkFrame
  | .rows t first run => .getReply t first run []
  | .meters first range zero => .meterReply first range zero [] none

/-- R22: the JOB END report of the job in a slot. -/
def State.report (s : State) (i : Slot) : JobEnd :=
  { tag := (s.job i).tag, handle := s.handleOf i, outcome := (s.job i).outcome, stored := (s.job i).stored,
    delivered := (s.job i).delivered, spoiled := (s.job i).spoiled, charge := (s.job i).charge, split := (s.job i).split,
    forced := (s.job i).forced, truncated := (s.job i).truncated }

/-- R164, sources 4 to 6. -/
def State.startLower (s : State) : State :=
  match s.link.replies with
  | r :: _ => s.putTx r.start
  | [] =>
    match s.jobs.endList with
    | i :: _ => s.putTx (.jobEnd (s.report i))
    | [] =>
      match s.alerts.routineCandidate with
      | some e => s.startAlert e
      | none => s

/-- R164: the next frame is started from the first source that has one ready. -/
def State.startNext (s : State) : State :=
  match s.intake.waiting with
  | some n => s.startCredit n
  | none =>
    match s.link.responses with
    | r :: _ => s.putTx (.response r)
    | [] =>
      match s.alerts.urgentCandidate with
      | some e => s.startAlert e
      | none => s.startLower

/-- UPLINK_FRAME_START: R164, R165. -/
def execUplinkFrameStart (s : State) : Out :=
  .next (s.whenUp (fun s =>
    match s.link.tx with
    | none => s.startNext
    | some _ => s))

/-! ### Serialising -/

/-- R92, R160: serialising a row of LANE STATE clears that lane's delta flags; every other row is read without
effect. -/
def State.readRow (s : State) (t : Table) (r : Nat) : State :=
  match t, finOf 16 r with
  | .laneState, some l => s.setLane l { s.lane l with delta := 0 }
  | _, _ => s

/-- R133: the coherent flag serialised now: the hold is still in progress. -/
def State.coherentNow (s : State) : Bool := s.meter.hold.isSome

/-- R133, R160: the next row, record or coherent flag of the REPLY in flight. -/
def State.serialiseNext (s : State) : State :=
  match s.link.tx with
  | some (.getReply t first run rows) =>
    match run[rows.length]? with
    | some r => (s.readRow t r).putTx (.getReply t first run (rows ++ [s.rowBytes t r]))
    | none => s
  | some (.meterReply first range zero records flag) =>
    match range[records.length]? with
    | some a => s.putTx (.meterReply first range zero (records ++ [s.meter.record a]) flag)
    | none => s.putTx (.meterReply first range zero records (some (flag.getD s.coherentNow)))
  | some (.credit _) => s
  | some (.response _) => s
  | some (.alert _) => s
  | some (.jobEnd _) => s
  | none => s

/-- SERIALISE_ROW: R133, R160. -/
def execSerialiseRow (s : State) : Out := .next (s.whenUp State.serialiseNext)

/-! ### Handovers -/

/-- The frame in flight has been handed to the link (log entry 31). -/
def State.handOver (s : State) (f : UplinkFrame) : State :=
  { s with link := { s.link with tx := none, sent := some f } }

/-- R42: the waiting place takes the amount kept apart, and otherwise empties. -/
def IntakeUnit.takeKept (u : IntakeUnit) : IntakeUnit :=
  { u with waiting := if u.kept = 0 then none else some u.kept, kept := 0 }

/-- CREDIT_HANDOVER: R42. -/
def execCreditHandover (s : State) : Out :=
  .next (s.whenUp (fun s =>
    match s.link.tx with
    | some (.credit n) => ({ s with intake := s.intake.takeKept } : State).handOver (.credit n)
    | _ => s))

/-- R159: the oldest entry leaves the response queue. -/
def State.dropResponse (s : State) : State := { s with link := { s.link with responses := s.link.responses.tail } }

/-- RESPONSE_HANDOVER: R159. -/
def execResponseHandover (s : State) : Out :=
  .next (s.whenUp (fun s =>
    match s.link.tx with
    | some (.response r) => s.dropResponse.handOver (.response r)
    | _ => s))

/-- ALERT_HANDOVER: R146. -/
def execAlertHandover (s : State) : Out :=
  .next (s.whenUp (fun s =>
    match s.link.tx with
    | some (.alert a) => ({ s with alerts := s.alerts.settle a.source a.kind } : State).handOver (.alert a)
    | _ => s))

/-- R160: the oldest REPLY leaves the reply queue. -/
def State.dropReply (s : State) : State := { s with link := { s.link with replies := s.link.replies.tail } }

/-- R135 steps 1 to 5: the end of a meter read of `range`. -/
def State.endMeterRead (s : State) (range : List AccountId) (zero : Bool) (records : List MeterRecord) : State :=
  let t : State := { s with meter := s.meter.endRead zero records }
  if zero then range.foldl State.reevaluate t else t

/-- R135, R160: the REPLY in flight, all of whose rows or records have been serialised, is handed over. -/
def State.handOverReply (s : State) : State :=
  match s.link.tx with
  | some (.getReply t first run rows) =>
    if rows.length = run.length then s.dropReply.handOver (.getReply t first run rows) else s
  | some (.meterReply first range zero records flag) =>
    if records.length = range.length then
      (s.dropReply.handOver (.meterReply first range zero records (some (flag.getD s.coherentNow)))).endMeterRead range
        zero records
    else s
  | _ => s

/-- REPLY_HANDOVER: R135, R160. -/
def execReplyHandover (s : State) : Out := .next (s.whenUp State.handOverReply)

/-- JOB_END_HANDOVER: R22. -/
def execJobEndHandover (s : State) : Out :=
  .next (s.whenUp (fun s =>
    match s.link.tx with
    | some (.jobEnd e) => (s.freeSlot e.handle.slot).handOver (.jobEnd e)
    | _ => s))

/-! ### LINK DOWN and LINK UP -/

/-- A slot placed among slots by the free ranks of choice `n`. -/
def insertRanked (n : Nat) (i : Slot) : List Slot → List Slot
  | [] => [i]
  | j :: rest =>
    if Config.linkLostRank n i ≤ Config.linkLostRank n j then i :: j :: rest else j :: insertRanked n i rest

/-- Log entry 15: slots in the free order of choice `n`. -/
def inRankOrder (n : Nat) : List Slot → List Slot
  | [] => []
  | i :: rest => insertRanked n i (inRankOrder n rest)

/-- R166: the slots of the open jobs. -/
def State.openSlots (s : State) : List Slot :=
  (List.finRange 256).filter (fun i => decide ((s.job i).state ≠ .free) && (s.job i).isOpen)

/-- R166: the LINK PORT at LINK DOWN: the frame in flight is cut off and both queues are emptied. -/
def LinkPort.down (k : LinkPort) : LinkPort := { k with up := false, responses := [], replies := [], tx := none }

/-- R43, R166: the INTAKE UNIT at LINK DOWN; R163's last sentence, that LINK DOWN leaves every field of the SYSTEM table,
does not hold of its outstanding credits (log entry 44). -/
def IntakeUnit.down (u : IntakeUnit) : IntakeUnit := { u with outstanding := 0, waiting := none, kept := 0 }

/-- R136, R147, R166: what LINK DOWN does before any job is failed. -/
def State.cutLink (s : State) : State :=
  { s with link := s.link.down, intake := s.intake.down, meter := s.meter.abandon, alerts := s.alerts.linkDown,
           choices := s.choices + 1 }

/-- R18, R65, R166: an open job that is not PRINTING is DONE, FAILED with LINK LOST, and leaves every candidate set; its
blocks and its place in the end list follow in its turn. -/
def Job.linkLost (j : Job) : Job :=
  if j.isOpen then
    match j.state with
    | .filling | .ready | .held => { j.ended (.failed .linkLost) with chain := j.chain }
    | .free | .printing | .done => j
  else j

/-- R65: every open job that is not PRINTING has ended before any lane or pass acts. -/
def State.loseJobs (s : State) : State :=
  { s with jobs := { s.jobs with slots := s.jobs.slots.map Job.linkLost } }

/-- R18, R21: an open job's turn: one that is PRINTING gets its FAIL request; the blocks of one that has ended are returned
and it joins the end list. -/
def State.loseLink (s : State) (i : Slot) : State :=
  match (s.job i).state with
  | .printing => s.fail i .linkLost
  | .done => s.endJob i (.failed .linkLost)
  | .free | .filling | .ready | .held => s

/-- R166: LINK DOWN; the open jobs fail in a free order (log entry 15). -/
def State.linkLost (s : State) : State :=
  ((inRankOrder s.choices s.openSlots).foldl State.loseLink s.cutLink.loseJobs).checkFallen s

/-- The line's sync (R166), which the part sees whatever its state. -/
def State.setSync (s : State) (inSync : Bool) : State := { s with link := { s.link with lineInSync := inSync } }

/-- LINK_DOWN: R166. -/
def execLinkDown (s : State) : Out :=
  .next ((s.setSync false).whenRunning (fun s => if s.link.up then s.linkLost else s))

/-- LINK_UP: R167. -/
def execLinkUp (s : State) : Out :=
  .next ((s.setSync true).whenRunning (fun s =>
    if s.link.up then s else ({ s with link := { s.link with up := true } } : State).evalGrant))

end Sys2Proof.Machine
end

