-- ==== Sys2Proof/Machine/PrinterTokens.lean ====
section
/-!
DEFINITION. The tokens a printer sends: STATUS (R92 to R94, R98, R102, R103), CREDIT (R69), SHEET OUT (R109, R110), and
the discarded token (R171).
-/
namespace Sys2Proof.Machine

/-! ### STATUS -/

/-- R92, R96: the miss count cleared, the mirror and the delta flags updated. -/
def Lane.report (fields : Byte) (l : Lane) : Lane :=
  { l.heard with mirror := fields, delta := deltaAfter l.delta l.mirror fields }

/-- R98: a lane in DOWN leaves it with printer credits 0 and INFO LANE UP; it takes its new state once the edges have
acted. -/
def State.comeUp (s : State) (l : LaneId) : State :=
  if (s.lane l).state = .down then (s.setLane l { s.lane l with credits := 0 }).raiseLane l .laneUp else s

/-- R93: an alert is raised when a field rose. -/
def State.raiseIf (s : State) (l : LaneId) (rose : Bool) (kind : AlertKind) : State :=
  if rose then s.raiseLane l kind else s

/-- R93: a rise of JAM: jam handling by the lane's state, URGENT JAM, and the jam count. -/
def State.jamRose (s : State) (l : LaneId) (rose : Bool) : State :=
  if rose then
    let t := (s.jam l).raiseLane l .jam
    { t with meter := t.meter.countJam l }
  else s

/-- R93: the alerts of the edges from `old` to `new`, after JAM rising, in the table's order. -/
def State.raiseEdges (s : State) (l : LaneId) (old new : Byte) : State :=
  (((((s.raiseIf l (StatusField.jam.fell old new) .jamCleared).raiseIf l (StatusField.coverOpen.rose old new)
    .coverOpen).raiseIf l (StatusField.paperOut.rose old new) .paperOut).raiseIf l (StatusField.fault.rose old new)
    .printerFault).raiseIf l (StatusField.paperLow.rose old new) .paperLow).raiseIf l
    (StatusField.tonerLow.rose old new) .tonerLow

/-- R103: the STATUS carried a falling edge of JAM, COVER OPEN or PANEL OFFLINE. -/
def clearingEdge (old new : Byte) : Bool :=
  StatusField.jam.fell old new || StatusField.coverOpen.fell old new || StatusField.panelOffline.fell old new

/-- R103: the recovery check. -/
def State.checkRecovery (s : State) (l : LaneId) (old new : Byte) : State :=
  if (s.lane l).state = .jammed ∧ (s.lane l).stallCaused = false ∧ clearToRecover new = true ∧
      clearingEdge old new = true then s.recover l
  else s

/-- R98: a lane that came up without a jam enters IDLE once step 4 is done, and the passes it makes possible run. -/
def State.settleUp (s : State) (l : LaneId) : State :=
  if (s.lane l).state = .down then (s.setLane l ((s.lane l).enter s.time .idle)).dispatch else s

/-- R93: a STATUS taken whole. -/
def State.takeStatus (s : State) (l : LaneId) (fields : Byte) : State :=
  let old := (s.lane l).mirror
  let t := s.comeUp l
  let u := t.setLane l ((t.lane l).report fields)
  let v := (u.jamRose l (StatusField.jam.rose old fields)).raiseEdges l old fields
  ((v.checkRecovery l old fields).settleUp l).checkReady l

/-- STATUS: R93. -/
def execStatus (lane : LaneId) (fields : Byte) (s : State) : Out :=
  .next (s.onToken lane (fun s => s.takeStatus lane fields))

/-! ### CREDIT, SHEET OUT and discarded tokens -/

/-- R69: a CREDIT adds its count, held at 63; in DOWN it is discarded; either way the miss count is cleared (R96). -/
def Lane.credit (count : Byte) (l : Lane) : Lane :=
  if l.state = .down then l.heard
  else { l.heard with credits := min Config.maxPrinterCredits (l.credits + min count.toNat Config.maxPrinterCredits) }

/-- PRINTER_CREDIT: R69. -/
def execPrinterCredit (lane : LaneId) (count : Byte) (s : State) : Out :=
  .next (s.onToken lane (fun s => s.setLane lane ((s.lane lane).credit count)))

/-- SHEET_OUT: R109, R110. -/
def execSheetOut (lane : LaneId) (s : State) : Out :=
  .next (s.onToken lane (fun s =>
    match (s.lane lane).inFlight with
    | e :: rest => s.retire lane e rest
    | [] => s.phantom lane))

/-- TOKEN_DISCARD: R171. The token is not taken and acts on no state. -/
def execTokenDiscard (_lane : LaneId) (s : State) : Out := .next s

end Sys2Proof.Machine
end

