-- ==== Sys2Proof/Machine/SupplyCommands.lean ====
section
/-!
DEFINITION. The supply monitor (R137) and power-on reset (R136, R138, R139).
-/
namespace Sys2Proof.Machine

/-- R138: the bank after a power-on reset. -/
def State.bankAfter (s : State) : MeterBank := if s.supply.bankValid then s.meter.bank else .lost

/-- R25, R155, R168: every block as a power-on reset leaves it, before the alert of R138 and the first grant of R43; the
straps are sampled, the link state is taken from the line, and the DRAM's bytes have no value (log entry 10). -/
def State.poweredOn (s : State) : State :=
  { State.cleared (Config.blocksOf s.straps) s.straps s.link.lineInSync s.bankAfter with
    pending := s.pending, choices := s.choices }

/-- R138: the INFO RETENTION LOST alert of a power-on reset that found the bank not valid. -/
def State.reportLoss (s : State) (valid : Bool) : State := if valid then s else s.raiseSystem .retentionLost

/-- R138: power-on reset; bank valid then becomes yes, and the first grant of R43 is made. -/
def State.powerOn (s : State) : State := (s.poweredOn.reportLoss s.supply.bankValid).evalGrant

/-- R137: the part halts; a frame in flight is cut off (log entry 28). -/
def State.halt (s : State) : State :=
  { s with supply := { s.supply with halted := true }, link := { s.link with tx := none } }

/-- SUPPLY_DROP: R136, R137. -/
def execSupplyDrop (s : State) : Out := .next (s.whenRunning (fun s => s.abandonHold.halt))

/-- SUPPLY_RISE: R137, R138. -/
def execSupplyRise (s : State) : Out := .next (if s.supply.halted then s.powerOn else s)

/-- RESET_PIN: R136, R138; it has no effect in HALTED (R137). -/
def execResetPin (s : State) : Out := .next (s.whenRunning (fun s => s.abandonHold.powerOn))

/-- R137: the backup supply falls below its minimum. -/
def State.loseBank (s : State) : State := { s with supply := { s.supply with bankValid := false } }

/-- BACKUP_SUPPLY_LOSS: R137. -/
def execBackupSupplyLoss (s : State) : Out := .next (if s.supply.halted then s.loseBank else s)

end Sys2Proof.Machine
end

