-- ==== Sys2Proof/Machine/ZoneEvents.lean ====
section
/-!
DEFINITION. The zones at the moments their beacon generators come to (R153, R154), and the TIME BASE (R2).
-/
namespace Sys2Proof.Machine

/-- R137: the ALERT UNIT acts on a zone while the part runs. -/
def State.onZone (s : State) (z : ZoneId) (act : Zone → Zone) : State :=
  s.whenRunning (fun s => { s with alerts := s.alerts.setZone z (act (s.zone z)) })

/-- R153: `ticks` beacon ticks have passed since the period's start. -/
def BeaconPeriod.reached (now : Time) (ticks : Nat) (g : BeaconPeriod) : Bool :=
  decide (Config.beaconTick * ticks ≤ since now g.start)

/-- R153, R154: the running period ends, a whole URGENT one is counted and the escalation check is made, and the next starts
at once with the values of the row as they now stand. -/
def Zone.endPeriod (now : Time) (z : Zone) : Zone :=
  match z.generator with
  | some g =>
    if g.reached now g.period then
      ({ z with generator := z.period now z.display,
                count := if z.display = .urgent then satAdd 255 z.count 1 else z.count } : Zone).escalate
    else z
  | none => z

/-- BEACON_PERIOD_END: R153, R154. -/
def execBeaconPeriodEnd (zone : ZoneId) (s : State) : Out := .next (s.onZone zone (Zone.endPeriod s.time))

/-- R153: the on ticks of the running period have passed: the output goes low for the rest of it. -/
def Zone.endOn (now : Time) (z : Zone) : Zone :=
  match z.generator with
  | some g =>
    if g.on < g.period ∧ g.reached now g.on = true then { z with generator := some { g with high := false } } else z
  | none => z

/-- BEACON_ON_END: R153. -/
def execBeaconOnEnd (zone : ZoneId) (s : State) : Out := .next (s.onZone zone (Zone.endOn s.time))

/-- ZONE_ESCALATE: the escalation check of R154 (log entry 9). -/
def execZoneEscalate (zone : ZoneId) (s : State) : Out := .next (s.onZone zone Zone.escalate)

/-- R2: press-room time rises by one millisecond, modulo 2^32. -/
def State.tick (s : State) : State := { s with time := s.time + 1 }

/-- TIME_TICK: R2; press-room time does not advance in HALTED (R137). -/
def execTimeTick (s : State) : Out := .next (s.whenRunning State.tick)

end Sys2Proof.Machine
end

