-- ==== Sys2Proof/Machine/Dispatch.lean ====
section
/-! DEFINITION. Each command of spec/opcode_table.json and its meaning. -/
namespace Sys2Proof.Machine

/-- The effect of a command on everything but the queue of waiting commands. -/
def exec (i : Instr) (s : State) : Host.Outcome State Fault Refusal :=
  match i with
  | .openJob tag cls account => Sys2Proof.Machine.execOpen tag cls account s
  | .data h seq payload => Sys2Proof.Machine.execData h seq payload s
  | .mark h seq media sides colour => Sys2Proof.Machine.execMark h seq media sides colour s
  | .close h seq => Sys2Proof.Machine.execClose h seq s
  | .cancel h => Sys2Proof.Machine.execCancel h s
  | .release h => Sys2Proof.Machine.execRelease h s
  | .setSystem first count rows => Sys2Proof.Machine.execSetSystem first count rows s
  | .setClass first count rows => Sys2Proof.Machine.execSetClass first count rows s
  | .setPool first count rows => Sys2Proof.Machine.execSetPool first count rows s
  | .setLaneConfig first count rows => Sys2Proof.Machine.execSetLaneConfig first count rows s
  | .setTariff first count rows => Sys2Proof.Machine.execSetTariff first count rows s
  | .setAccount first count rows => Sys2Proof.Machine.execSetAccount first count rows s
  | .setZone first count rows => Sys2Proof.Machine.execSetZone first count rows s
  | .setOther table first count => Sys2Proof.Machine.execSetOther table first count s
  | .get table first count => Sys2Proof.Machine.execGet table first count s
  | .meterRead first count zero => Sys2Proof.Machine.execMeterRead first count zero s
  | .ackAlert sourceType sourceNumber kind => Sys2Proof.Machine.execAckAlert sourceType sourceNumber kind s
  | .ackZone zone => Sys2Proof.Machine.execAckZone zone s
  | .enable lane => Sys2Proof.Machine.execEnable lane s
  | .disable lane => Sys2Proof.Machine.execDisable lane s
  | .init lane => Sys2Proof.Machine.execInit lane s
  | .resume lane => Sys2Proof.Machine.execResume lane s
  | .command lane code => Sys2Proof.Machine.execCommand lane code s
  | .cancelCommand lane => Sys2Proof.Machine.execCancelCommand lane s
  | .reset => Sys2Proof.Machine.execReset s
  | .unknownKind form => Sys2Proof.Machine.execUnknownKind form s
  | .linkError => Sys2Proof.Machine.execLinkError s
  | .uplinkFrameStart => Sys2Proof.Machine.execUplinkFrameStart s
  | .serialiseRow => Sys2Proof.Machine.execSerialiseRow s
  | .creditHandover => Sys2Proof.Machine.execCreditHandover s
  | .responseHandover => Sys2Proof.Machine.execResponseHandover s
  | .alertHandover => Sys2Proof.Machine.execAlertHandover s
  | .replyHandover => Sys2Proof.Machine.execReplyHandover s
  | .jobEndHandover => Sys2Proof.Machine.execJobEndHandover s
  | .linkDown => Sys2Proof.Machine.execLinkDown s
  | .linkUp => Sys2Proof.Machine.execLinkUp s
  | .supplyDrop => Sys2Proof.Machine.execSupplyDrop s
  | .supplyRise => Sys2Proof.Machine.execSupplyRise s
  | .resetPin => Sys2Proof.Machine.execResetPin s
  | .backupSupplyLoss => Sys2Proof.Machine.execBackupSupplyLoss s
  | .status lane fields => Sys2Proof.Machine.execStatus lane fields s
  | .printerCredit lane count => Sys2Proof.Machine.execPrinterCredit lane count s
  | .sheetOut lane => Sys2Proof.Machine.execSheetOut lane s
  | .tokenDiscard lane => Sys2Proof.Machine.execTokenDiscard lane s
  | .pollTimerExpiry lane => Sys2Proof.Machine.execPollTimerExpiry lane s
  | .pollSend lane => Sys2Proof.Machine.execPollSend lane s
  | .commandSend lane => Sys2Proof.Machine.execCommandSend lane s
  | .laneRead lane => Sys2Proof.Machine.execLaneRead lane s
  | .jobStreamTokenTaken lane => Sys2Proof.Machine.execJobStreamTokenTaken lane s
  | .laneLoss lane => Sys2Proof.Machine.execLaneLoss lane s
  | .stallExpiry lane => Sys2Proof.Machine.execStallExpiry lane s
  | .recoveryTimerExpiry lane => Sys2Proof.Machine.execRecoveryTimerExpiry lane s
  | .beaconPeriodEnd zone => Sys2Proof.Machine.execBeaconPeriodEnd zone s
  | .beaconOnEnd zone => Sys2Proof.Machine.execBeaconOnEnd zone s
  | .zoneEscalate zone => Sys2Proof.Machine.execZoneEscalate zone s
  | .timeTick => Sys2Proof.Machine.execTimeTick s

end Sys2Proof.Machine
end

