-- ==== Sys2Proof/Safety.lean ====
section
/-!
DEFINITION. The vocabulary of the statements: which commands reset the part or can stop the model, when a command is
received, which rows a request names, and the laws that the manual states for every moment.
-/
namespace Sys2Proof

/-! ### Kinds of command -/

/-- R138, R168: the command can reset the part. -/
def Instr.resets : Instr → Bool
  | .reset | .resetPin | .supplyRise => true
  | _ => false

/-- The commands that can end in a fault: the two that store content and the one that reads it (log entries 13, 14). -/
def Instr.touchesContent : Instr → Bool
  | .data .. | .mark .. | .laneRead .. => true
  | _ => false

/-- R162: the table that the command can write. -/
def Instr.sets : Instr → Option Table
  | .setSystem .. => some .system
  | .setClass .. => some .cls
  | .setPool .. => some .pool
  | .setLaneConfig .. => some .laneConfig
  | .setTariff .. => some .tariff
  | .setAccount .. => some .account
  | .setZone .. => some .zone
  | _ => none

/-- R156, R164, R166: the command is a frame from the server, or a moment of the uplink transmitter: nothing of the kind
happens while the link is DOWN. -/
def Instr.needsLink : Instr → Bool
  | .linkError | .uplinkFrameStart | .serialiseRow | .creditHandover | .responseHandover | .alertHandover
  | .replyHandover | .jobEndHandover => true
  | c => (encodeBody c).isSome

/-- R157: the command is a frame that is taken only when the response queue has room: every kind but RESET, DATA and
MARK, known or not. -/
def Instr.needsRoom : Instr → Bool
  | .reset | .data .. | .mark .. => false
  | c => (encodeBody c).isSome

/-- R66, R95 to R110, R171: the lane of a token from a printer or of a moment of a LANE ENGINE. -/
def Instr.onLane : Instr → Option LaneId
  | .status l _ | .printerCredit l _ | .sheetOut l | .tokenDiscard l | .pollTimerExpiry l | .pollSend l | .commandSend l
  | .laneRead l | .jobStreamTokenTaken l | .laneLoss l | .stallExpiry l | .recoveryTimerExpiry l => some l
  | _ => none

namespace Machine

/-! ### When a command is received -/

/-- R137: the supply state is RUNNING. -/
abbrev State.Running (s : State) : Prop := s.supply.halted = false

/-- R156, R166: frames are received. -/
abbrev State.Receives (s : State) : Prop := s.Running ∧ s.link.up = true

/-- R157: a request other than RESET, DATA and MARK is taken. -/
abbrev State.Admits (s : State) : Prop := s.Receives ∧ s.link.responses.length < 16

/-- R67: a token of the lane's printer is taken. -/
abbrev State.Hears (s : State) (l : LaneId) : Prop := s.Running ∧ (s.lane l).state ≠ .offline

/-- R4: the handle names a live job of its slot. -/
abbrev State.Names (s : State) (h : Handle) : Prop := (s.job h.slot).state ≠ .free ∧ (s.job h.slot).gen = h.gen

/-- R12, R29: the job is DONE or carries a CANCEL or FAIL stop request. -/
abbrev Job.Ending (j : Job) : Prop :=
  j.state = .done ∨ j.stop = some .cancel ∨ j.stop = some (.fail .sequence) ∨ j.stop = some (.fail .overrun) ∨
    j.stop = some (.fail .linkLost)

/-- R12, R29: the frame names a live, open job that is not ending. -/
abbrev State.Addresses (s : State) (h : Handle) : Prop :=
  s.Names h ∧ ¬(s.job h.slot).Ending ∧ (s.job h.slot).isOpen = true

/-- R161: the page a row lies in has 16 rows, or the whole table's. -/
abbrev pageRows (rows : Nat) : Nat := min 16 rows

/-- R161: the row that place `k` of a request's run names: in order from the first row, wrapping in its page. -/
def runRow (rows first k : Nat) : Nat := first - first % pageRows rows + (first % pageRows rows + k) % pageRows rows

/-- R161, R162: the number of rows a request's run names. -/
abbrev runLength (rows : Nat) (count : Byte) : Nat := min count.toNat (pageRows rows)

/-- R161, R162: the first row and the count name a run of the table. -/
abbrev NamesRun (rows : Nat) (first count : Byte) : Prop := first.toNat < rows ∧ count ≠ 0

/-- R162: the SET fits its frame (R156), and its rows are stored. -/
abbrev StoresRows (t : Table) (first count : Byte) (carried : Nat) : Prop :=
  carried = count.toNat ∧ 3 + count.toNat * t.rowSize ≤ 4096 ∧ NamesRun t.rows first count

/-- R93: the kinds of the alerts of the edges from the old mirror to the reported fields but that of a rise of JAM, in the
order of the table. -/
def edgeAlerts (old new : Byte) : List AlertKind :=
  let rose (k : Nat) := !old.getLsbD k && new.getLsbD k
  let one (edge : Bool) (kind : AlertKind) : List AlertKind := if edge then [kind] else []
  one (old.getLsbD 3 && !new.getLsbD 3) .jamCleared ++ one (rose 4) .coverOpen ++ one (rose 2) .paperOut ++
    one (rose 7) .printerFault ++ one (rose 1) .paperLow ++ one (rose 5) .tonerLow

/-- R93, R141: a lane's alerts raised one after another. -/
def State.raiseAll (s : State) (l : LaneId) (kinds : List AlertKind) : State := kinds.foldl (State.raiseLane · l ·) s

/-- R152, R153, R154: the record of a zone whose display class has become `d` at time `now`: its generator starts a period
with the pattern of `d`, or is stopped when DARK, and nothing is counted or escalated. -/
def Zone.changedTo (now : Time) (d : Display) (z : Zone) : Zone :=
  { z with
    display := d, count := 0, escalated := false,
    generator := match d with
      | .urgent => some { start := now, on := z.urgentOn, period := z.urgentPeriod, high := decide (0 < z.urgentOn) }
      | .notice => some { start := now, on := z.noticeOn, period := z.noticePeriod, high := decide (0 < z.noticeOn) }
      | .dark => none }

/-- R152, R153: the zones of `t` follow its alert queue from those of `s`: a zone whose display class differs has the new
class, its generator restarted at once, and every other zone keeps its record. -/
def State.ZonesFollow (s t : State) : Prop :=
  ∀ z : ZoneId, t.zone z =
    if displayOf t.alerts.queue z = displayOf s.alerts.queue z then s.zone z
    else (s.zone z).changedTo s.time (displayOf t.alerts.queue z)

/-! ### Laws -/

/-- The spool store's bytes keep their canonical form: addresses strictly rising (R25, log entry 10). -/
def State.StoreLaw (s : State) : Prop := s.store.dram.wf = true

/-- R132, R159, R160: the bounded queues of the LINK PORT and the held-charge list, which is empty whenever no hold is in
progress. -/
def State.QueueLaw (s : State) : Prop :=
  s.link.responses.length ≤ 16 ∧ s.link.replies.length ≤ 4 ∧ s.meter.held.length ≤ 8 ∧
    (s.meter.hold = none → s.meter.held = [])

/-- R25, R39, R40, R41: the block count is one of the four, the watermarks are in order, the intake state follows the
free-block count, and outstanding credits never exceed the free blocks and never exceed 64. -/
def State.IntakeLaw (s : State) : Prop :=
  s.store.blockCount ∈ [8192, 16384, 32768, 65536] ∧ s.intake.low < s.intake.high ∧
    s.intake.high ≤ s.store.blockCount ∧ (s.intake.state = .run → s.intake.low < s.store.free.length) ∧
    (s.intake.state = .stop → s.store.free.length < s.intake.high) ∧ s.intake.outstanding ≤ s.store.free.length ∧
    s.intake.outstanding ≤ 64

/-- R42, R165: a waiting CREDIT carries 1 to 64, and so does one in flight, together with what is kept apart meanwhile; in
RUNNING an amount is kept apart only then. -/
def State.CreditLaw (s : State) : Prop :=
  (∀ n, s.intake.waiting = some n → 1 ≤ n ∧ n ≤ 64) ∧ s.intake.kept ≤ 64 ∧
    (∀ n, s.link.tx = some (.credit n) → 1 ≤ n ∧ n + s.intake.kept ≤ 64) ∧
    (s.Running → (∀ n, s.link.tx ≠ some (.credit n)) → s.intake.kept = 0)

/-- R142: at most 48 entries, one for each key, URGENT before NOTICE before INFO, with 1 to 255 occurrences, and raised in
flight only while in flight. -/
def State.AlertLaw (s : State) : Prop :=
  s.alerts.queue.length ≤ 48 ∧
    s.alerts.queue.Pairwise (fun a b => ¬(a.source = b.source ∧ a.kind = b.kind) ∧ a.cls.rank ≤ b.cls.rank) ∧
    ∀ e ∈ s.alerts.queue, 1 ≤ e.occurrences ∧ e.occurrences ≤ 255 ∧ (e.raisedInFlight = true → e.inFlight = true)

/-- R152 to R154: every zone shows the highest class of its queued entries, its generator runs exactly while it is not
DARK, and only an URGENT zone counts periods or is escalated. -/
def State.ZoneLaw (s : State) : Prop :=
  ∀ z : ZoneId, (s.zone z).display = displayOf s.alerts.queue z ∧
    ((s.zone z).generator = none ↔ (s.zone z).display = .dark) ∧
    ((s.zone z).display ≠ .urgent → (s.zone z).count = 0 ∧ (s.zone z).escalated = false)

/-- R69, R70, R72, R73, R78, R84, R95, R96, R108: the ranges of a lane's record, and what each state says of it. -/
def Lane.Legal (l : Lane) : Prop :=
  l.credits ≤ 63 ∧ l.inFlight.length ≤ 32 ∧ l.misses ≤ 3 ∧ (∀ c, l.capture = some c → 1 ≤ c ∧ c ≤ 65535) ∧
    100 ≤ l.stallFloor ∧ l.stallFloor ≤ l.stallCeiling ∧ l.stallCeiling ≤ 65535 ∧
    (l.state = .offline ∨ l.state = .down → l.credits = 0 ∧ l.command = none) ∧
    (l.state = .offline ↔ l.pollTimer = none) ∧ (l.state = .paused ↔ l.resume ≠ none) ∧
    (l.stallCaused = true → l.state = .jammed) ∧
    (l.state ∈ [LaneState.offline, .down, .idle] → l.job = none) ∧
    (l.state ∈ [LaneState.sending, .starved, .paused, .draining, .recovering] → l.job ≠ none)

/-- Every lane's record is legal. -/
def State.LaneLaw (s : State) : Prop := ∀ l : LaneId, (s.lane l).Legal

/-- R113, R119, R120, R121, R123, R124: settings and totals of the METER UNIT stay in their ranges. -/
def State.MeterLaw (s : State) : Prop :=
  (∀ m : MediaId, s.meter.tariff[m].w0 ≤ 4095 ∧ s.meter.tariff[m].w1 ≤ 4095 ∧ s.meter.tariff[m].w2 ≤ 4095 ∧
      16 ≤ s.meter.tariff[m].duplex ∧ s.meter.tariff[m].duplex ≤ 32) ∧
    ∀ a : AccountId, s.meter.accounts[a].factor ≤ 255 ∧ s.meter.bank.meters[a].total ≤ max48 ∧
      s.meter.bank.meters[a].sheets ≤ max32 ∧ s.meter.reserved[a] ≤ max48

/-- The charges in flight on a lane for an account. -/
def Lane.chargeFor (a : AccountId) (l : Lane) : Nat :=
  ((l.inFlight.filter (fun e => decide (e.account = a))).map InFlight.charge).sum

/-- R115, R124: every account's reserved total equals the sum of the charges of all in-flight entries, across all lanes,
whose account it is; with the ranges that keep it from saturating: 32 entries a lane (R78), 261,056 sub-units a sheet. -/
def State.ReservationLaw (s : State) : Prop :=
  s.MeterLaw ∧ (∀ l : LaneId, (s.lane l).inFlight.length ≤ 32 ∧ ∀ e ∈ (s.lane l).inFlight, e.charge ≤ 261056) ∧
    ∀ a : AccountId, s.meter.reserved[a] = (s.lanes.toList.map (Lane.chargeFor a)).sum

/-- R119, R121, R125, R132: the ranges of the budgets, the lane counters and the held entries; no account has two held
entries, and each lies in the hold range. -/
def State.MeterRanges (s : State) : Prop :=
  (∀ (a : AccountId) (b : Nat), s.meter.accounts[a].budget = some b → b ≤ max32) ∧
    (∀ l : LaneId, s.meter.bank.counters[l].delivered ≤ max32 ∧ s.meter.bank.counters[l].spoiled ≤ max32 ∧
      s.meter.bank.counters[l].spoiledCharge ≤ max48 ∧ s.meter.bank.counters[l].jams ≤ max32 ∧
      s.meter.bank.counters[l].stalls ≤ max32 ∧ s.meter.bank.counters[l].phantoms ≤ max32) ∧
    (∀ e ∈ s.meter.held, e.charge ≤ max48 ∧ e.sheets ≤ max32 ∧ ∃ range ∈ s.meter.hold, e.account ∈ range) ∧
    s.meter.held.Pairwise (fun d e => d.account ≠ e.account)

/-- R58: an IDLE lane and a candidate of its pool are never left waiting for each other. -/
def State.DispatchLaw (s : State) : Prop :=
  ∀ (l : LaneId) (p : PoolId), (s.lane l).state = .idle → (s.lane l).effPool = some p →
    ∀ i : Slot, s.isCandidate p i = false

/-! ### The laws on jobs -/

/-- R27: items stand one after another, from a position to the end of the last. -/
def laidOut : Nat → List Item → Nat → Prop
  | p, [], last => p = last
  | p, i :: rest, last => i.pos = p ∧ laidOut (p + i.size) rest last

/-- R19: the positions of the job's marks, in order. -/
def Job.marks (j : Job) : List Nat :=
  j.items.filterMap (fun i => match i.body with | .mark _ => some i.pos | .run _ => none)

/-- R3, R18, R19, R21, R27, R35, R36: a job record. Its content is laid out, sheets stored counts its marks, and its
sheets fall into three consecutive runs: delivered, in flight and unsent; the restart point is the mark of the next
unsent sheet; each optional field is there in its own state; and nothing of a FILLING job has been sent. -/
def Job.Legal (j : Job) : Prop :=
  laidOut 0 j.items j.storedEnd ∧ j.stored = j.marks.length ∧ j.prologueEnd = j.marks.head? ∧
    j.nextUnsent = j.delivered + j.inFlight ∧ j.nextUnsent ≤ j.stored ∧
    j.restart = (match j.marks[j.nextUnsent]? with | some p => .fixed p | none => .following) ∧
    (j.lane ≠ none ↔ j.state = .printing) ∧ (j.holdReason ≠ none ↔ j.state = .held) ∧
    (j.outcome ≠ none ↔ j.state = .done) ∧ (j.state ≠ .printing → j.inFlight = 0 ∧ j.stop = none) ∧
    (j.state = .free ∨ j.state = .done → j.chain = [] ∧ j.isOpen = false) ∧ (j.state = .filling → j.isOpen = true) ∧
    (j.state = .filling ∨ j.holdReason = some .operator → j.nextUnsent = 0) ∧
    (j.state = .ready ∨ j.state = .printing ∨
      j.state = .held ∧ (j.isOpen = false ∨ j.forced = true ∨ j.holdReason = some .budget) → 1 ≤ j.stored)

/-- R19, R74 to R78: a lane and the job it carries. The job names the lane, the in-flight list holds the job's sheets in
flight in order, and the send position stands in the prologue while it is due, and after it between the last sheet sent
and the restart point, past every mark before it, with in-sheet no at a mark. A lane with no job has an empty list. -/
def State.Carries (s : State) (l : LaneId) : Prop :=
  match (s.lane l).job with
  | none => (s.lane l).inFlight = []
  | some h =>
    let x := s.lane l
    let j := s.job h.slot
    h.gen = j.gen ∧ j.lane = some l ∧ x.inFlight.length = j.inFlight ∧
      (∀ k : Fin x.inFlight.length, x.inFlight[k].job = h ∧ x.inFlight[k].account = j.account ∧
        x.inFlight[k].sheet = j.delivered + k.val ∧ j.marks[j.delivered + k.val]? = some x.inFlight[k].markPos) ∧
      (x.state = .jammed ∨ x.state = .recovering → x.inFlight = []) ∧
      (x.prologueDue = true → x.inSheet = false ∧ x.roomWait = false ∧ ∃ p ∈ j.prologueEnd, x.sendPos ≤ p) ∧
      (x.prologueDue = false → x.sendPos ≤ j.restartPos ∧ ∀ p ∈ j.marks, p < j.restartPos → p < x.sendPos) ∧
      (∀ p ∈ j.marks, p < x.sendPos → p + 8 ≤ x.sendPos) ∧ (x.sendPos ∈ j.marks → x.inSheet = false)

/-- R9: the law on tags: no two jobs that are not FREE carry the same tag. -/
def State.TagLaw (s : State) : Prop :=
  ∀ i k : Slot, i ≠ k → (s.job i).state ≠ .free → (s.job k).state ≠ .free → (s.job i).tag ≠ (s.job k).tag

/-- R35, R36, R37: the content position from which on the store keeps what follows the prologue: the release point, or,
while the prologue is being sent again, the delivered point. -/
def State.keptFrom (s : State) (i : Slot) : Nat :=
  match (s.job i).lane with
  | some l => if (s.lane l).prologueDue then s.deliveredPoint i else s.releasePoint i
  | none => s.releasePoint i

/-- R27, R28, R37, R38: the store keeps the content of the job in a slot. The ordinals of its chain rise, and each block of
it begins below the stored end; and of a job that has not ended, the block into which the next item goes is in the chain
while it is not full, and every byte of the prologue and from `keptFrom` to the stored end stands in a block of the chain
and has been written. -/
def State.KeepsContent (s : State) (i : Slot) : Prop :=
  let j := s.job i
  j.chain.Pairwise (fun d e => d.ordinal < e.ordinal) ∧
    (∀ e ∈ j.chain, e.ordinal * Config.blockSize < j.storedEnd) ∧
    (j.state ≠ .free → j.state ≠ .done →
      (j.storedEnd % Config.blockSize ≠ 0 → addressOf j.chain j.storedEnd ≠ none) ∧
      ∀ p, p < j.storedEnd → (∀ e, j.prologueEnd = some e → p < e) ∨ s.keptFrom i ≤ p →
        (addressOf j.chain p).bind s.store.dram.read ≠ none)

/-- R8, R9, R19, R26, R37, R38: the laws on jobs. Every record and every lane is legal, every lane carries its job and every
PRINTING job is carried, the store keeps the content of every job, the lists hold the live and the DONE slots once each, no
two live jobs share a tag, every block is free or in exactly one chain, and a JOB END in flight is that of the head of the
end list. -/
def State.JobLaw (s : State) : Prop :=
  s.LaneLaw ∧ (∀ i : Slot, (s.job i).Legal) ∧ (∀ l : LaneId, s.Carries l) ∧
    (∀ (i : Slot) (l : LaneId), (s.job i).lane = some l → (s.lane l).job = some (s.handleOf i)) ∧
    (∀ i : Slot, s.KeepsContent i) ∧ s.jobs.openList.Nodup ∧ (∀ i : Slot, i ∈ s.jobs.openList ↔ (s.job i).state ≠ .free) ∧
    s.jobs.endList.Nodup ∧ (∀ i : Slot, i ∈ s.jobs.endList ↔ (s.job i).state = .done) ∧
    s.TagLaw ∧
    (s.store.free ++ s.jobs.slots.toList.flatMap (fun j => j.chain.map ChainEntry.block)).Perm
      (List.range s.store.blockCount) ∧
    ∀ e, s.link.tx = some (.jobEnd e) → s.jobs.endList.head? = some e.handle.slot

/-- R11, R36: nothing of a FILLING job has been sent: its restart point is the first mark. -/
def State.FillingUnsent (s : State) : Prop :=
  ∀ i : Slot, (s.job i).state = .filling →
    (s.job i).restart = (match (s.job i).prologueEnd with | some p => .fixed p | none => .following)

/-- R1, R3: no count of stored sheets is about to saturate; the laws on counts are exact while this holds. -/
def State.CountsFit (s : State) : Prop := ∀ i : Slot, (s.job i).stored < max32

end Machine

end Sys2Proof
end

