-- ==== Sys2Proof/Certificates/Slice0/Obligations.lean ====
section
/-!
DEFINITION. The statements for the provers. Each docstring names the rules of spec/ that a statement formalises, and says
where a clause is the model's own choice (with its log entry).
-/

open Sys2Proof Sys2Proof.Machine

/-! ### The machine -/

/-- Log entry 1: a step takes the command at the front of the queue and runs it on the state with the queue's rest; on
an empty queue the block idles (DESIGN CHOICE). spec/00_scope.md, after R2: each rule states its behaviour on the
arrival of a frame or token, the expiry of a timer, the completion of an operation or a supply event; a command is one
such event. -/
def Obligations.StepTakesTheFrontCommand : Prop :=
  ∀ (s : State) (c : Instr) (rest : List Instr),
    step { s with pending := c :: rest } = exec c { s with pending := rest } ∧
      step { s with pending := [] } = .next { s with pending := [] }

/-- Log entry 1: no command touches the queue of waiting commands, whatever it does (DESIGN CHOICE). Every command but
DATA, MARK and LANE READ runs to a next state in every state; those three can end only in the faults of log entries 13
and 14 (R28, R37, R41), and no command is refused by the model. -/
def Obligations.CommandsKeepTheQueueAndRun : Prop :=
  (∀ (c : Instr) (s t : State), exec c s = .next t → t.pending = s.pending) ∧
  (∀ (c : Instr) (s : State), (∀ r, exec c s ≠ .refused r) ∧ (c.touchesContent = false → ∃ t, exec c s = .next t))

/-- R41: "Every frame that R29 takes therefore finds the block it may need." -/
def Obligations.TakenContentFindsItsBlock : Prop :=
  ∀ (s : State) (h : Handle) (seq : Half), s.IntakeLaw →
    (∀ payload, exec (.data h seq payload) s ≠ .fault .storeExhausted) ∧
      ∀ media sides colour, exec (.mark h seq media sides colour) s ≠ .fault .storeExhausted

/-- R137: in HALTED no token or frame is taken, no block acts and press-room time does not advance. Only the supplies
act, and the line's sync is seen (log entry 4). R156, R166, log entry 6: while the link is DOWN no frame is received,
started or handed over. -/
def Obligations.HaltedAndDownPartsDoNothing : Prop :=
  (∀ (c : Instr) (s : State), s.supply.halted = true → c ≠ .supplyRise → c ≠ .backupSupplyLoss →
     exec c s = .next (match c with
       | .linkDown => { s with link := { s.link with lineInSync := false } }
       | .linkUp => { s with link := { s.link with lineInSync := true } }
       | _ => s)) ∧
  (∀ (c : Instr) (s : State), s.link.up = false → c.needsLink = true → exec c s = .next s)

/-- R157: with the response queue full, every request but RESET, DATA and MARK is discarded untaken and sets RESPONSE
OVERFLOW; nothing else changes. R156: a discarded frame raises the link error count, which saturates, and does nothing
else; so does a DATA or a SET whose lists do not fit (log entry 32). -/
def Obligations.RequestsWithoutRoomAndLinkErrors : Prop :=
  (∀ (c : Instr) (s : State), c.wellFormed = true → c.needsRoom = true → s.Receives → 16 ≤ s.link.responses.length →
     exec c s = .next { s with link := { s.link with overflow := true } }) ∧
  (∀ (s : State) (c : Instr), s.Receives →
     (c = .linkError ∨ (∃ h q p, c = .data h q p ∧ c.wellFormed = false) ∨
       (c.sets ≠ none ∧ c.wellFormed = false) ∨ ∃ t f n, c = .setOther t f n ∧ t.fits n = false) →
     exec c s = .next { s with link := { s.link with errors := if s.link.errors < 65535 then s.link.errors + 1 else 65535 } })

/-- R28, R38: only DATA and MARK store bytes; every other command but a power-on reset leaves every byte of the spool
store's memory as it was. That a RESET frame keeps the stored bytes, and that a power-on reset loses them, is the
model's choice (log entry 10, DESIGN CHOICE). -/
def Obligations.OtherCommandsKeepStoredBytes : Prop :=
  ∀ (c : Instr) (s t : State), exec c s = .next t → c ≠ .resetPin → c ≠ .supplyRise →
    (c.touchesContent = false ∨ ∃ l, c = .laneRead l) →
    ∀ a : Nat, t.store.dram.read a = s.store.dram.read a

/-- R48, R50, R70, R113, R121, R151, R162, R163: a setting changes only by a SET of its own table or by a reset. R2:
press-room time changes at no command but a tick, and a reset starts it at 0. R3, R4, R22: a slot's generation changes
only when a JOB END frame is handed over or the part is reset. OPEN does not change it. -/
def Obligations.SettingsTimeAndGenerationsMoveOnlyByTheirCommands : Prop :=
  (∀ (c : Instr) (s t : State), exec c s = .next t → c.resets = false →
     (c.sets ≠ some .cls → t.classes = s.classes) ∧
     (c.sets ≠ some .tariff → t.meter.tariff = s.meter.tariff) ∧
     (c.sets ≠ some .account → t.meter.accounts = s.meter.accounts) ∧
     (c.sets ≠ some .system →
       t.intake.high = s.intake.high ∧ t.intake.low = s.intake.low ∧ t.alerts.office = s.alerts.office) ∧
     (c.sets ≠ some .pool → ∀ p : PoolId,
       (t.pool p).threshold = (s.pool p).threshold ∧ (t.pool p).fallback = (s.pool p).fallback) ∧
     (c.sets ≠ some .laneConfig → ∀ l : LaneId,
       (t.lane l).pool = (s.lane l).pool ∧ (t.lane l).zone = (s.lane l).zone ∧
         (t.lane l).stallCeiling = (s.lane l).stallCeiling ∧ (t.lane l).stallFloor = (s.lane l).stallFloor ∧
         (t.lane l).recoveryDelay = (s.lane l).recoveryDelay) ∧
     (c.sets ≠ some .zone → ∀ z : ZoneId,
       (t.zone z).urgentOn = (s.zone z).urgentOn ∧ (t.zone z).urgentPeriod = (s.zone z).urgentPeriod ∧
         (t.zone z).noticeOn = (s.zone z).noticeOn ∧ (t.zone z).noticePeriod = (s.zone z).noticePeriod ∧
         (t.zone z).escalation = (s.zone z).escalation)) ∧
  (∀ (c : Instr) (s t : State), exec c s = .next t → c ≠ .timeTick → t.time = s.time ∨ (c.resets = true ∧ t.time = 0)) ∧
  (∀ (c : Instr) (s t : State), exec c s = .next t → c.resets = false → c ≠ .jobEndHandover →
     ∀ i : Slot, (t.job i).gen = (s.job i).gen)

/-- Tokens from a printer and moments of a LANE ENGINE reach their own lane. Another lane stays as it was, or, being
IDLE, starts a job it has been assigned (R61). A job that is neither on the lane nor in its in-flight list stays as it
was, or, being FILLING, is made READY by a forced start (R45), or, being READY, is assigned to a lane that was IDLE or
to the lane of the event, with what its start releases of its chain (R37). Blocks only return, jobs only join the end
list, and nothing of the link changes, nor any setting: of classes, pools, lanes, accounts, the tariff, the zones and
the SYSTEM row. Only a SHEET OUT reaches the account meters and the held charges. -/
def Obligations.LaneEventsReachOnlyTheirLane : Prop :=
  ∀ (c : Instr) (l : LaneId) (s t : State), c.onLane = some l → exec c s = .next t →
    let apart (i : Slot) : Prop :=
      (∀ h : Handle, (s.lane l).job = some h → h.slot ≠ i) ∧ ∀ e ∈ (s.lane l).inFlight, e.job.slot ≠ i
    (∀ k : LaneId, k ≠ l → (s.lane k).state ≠ .idle → t.lane k = s.lane k) ∧
    (∀ k : LaneId, k ≠ l → t.lane k = s.lane k ∨ ∃ (i : Slot) (j : Job),
      t.lane k = ({ s.lane k with job := some (s.handleOf i) } : Lane).start s.time j ∧ j.tag = (s.job i).tag ∧
        j.prologueEnd = (s.job i).prologueEnd ∧ (apart i → j = s.job i)) ∧
    (∀ i : Slot, (s.job i).state ≠ .filling → (s.job i).state ≠ .ready → apart i → t.job i = s.job i) ∧
    (∀ i : Slot, apart i → t.job i = s.job i ∨
      ∃ j : Job, (j = s.job i ∧ j.state = .ready ∨ (s.job i).state = .filling ∧
          j = { s.job i with state := .ready, holdReason := none, stop := none, lane := none, readySince := s.time,
                             forced := true }) ∧
        (t.job i = j ∨ ∃ (k : LaneId) (chain : List ChainEntry), (k = l ∨ (s.lane k).state = .idle) ∧
          chain.Sublist j.chain ∧ (j.prologueEnd ≠ some 0 → chain = j.chain) ∧
          t.job i = { j with state := .printing, lane := some k, stop := none, chain := chain } ∧
          (t.lane k).job = some (s.handleOf i))) ∧
    t.jobs.openList = s.jobs.openList ∧ (∃ more, t.jobs.endList = s.jobs.endList ++ more) ∧
    t.store.dram = s.store.dram ∧ t.store.blockCount = s.store.blockCount ∧
    (∃ more, t.store.free = s.store.free ++ more) ∧
    t.link = s.link ∧ t.classes = s.classes ∧ t.time = s.time ∧ t.supply = s.supply ∧ t.straps = s.straps ∧
    t.choices = s.choices ∧ t.meter.tariff = s.meter.tariff ∧ t.meter.accounts = s.meter.accounts ∧
    t.meter.bank.retentionLost = s.meter.bank.retentionLost ∧
    t.intake.low = s.intake.low ∧ t.intake.high = s.intake.high ∧ t.alerts.office = s.alerts.office ∧
    (∀ p : PoolId, (t.pool p).threshold = (s.pool p).threshold ∧ (t.pool p).fallback = (s.pool p).fallback) ∧
    (∀ k : LaneId, (t.lane k).enabled = (s.lane k).enabled ∧ (t.lane k).pool = (s.lane k).pool ∧
      (t.lane k).zone = (s.lane k).zone ∧ (t.lane k).stallCeiling = (s.lane k).stallCeiling ∧
      (t.lane k).stallFloor = (s.lane k).stallFloor ∧ (t.lane k).recoveryDelay = (s.lane k).recoveryDelay) ∧
    (∀ z : ZoneId, (t.zone z).urgentOn = (s.zone z).urgentOn ∧ (t.zone z).urgentPeriod = (s.zone z).urgentPeriod ∧
      (t.zone z).noticeOn = (s.zone z).noticeOn ∧ (t.zone z).noticePeriod = (s.zone z).noticePeriod ∧
      (t.zone z).escalation = (s.zone z).escalation) ∧
    (c ≠ .sheetOut l → t.meter.bank.meters = s.meter.bank.meters ∧ t.meter.held = s.meter.held ∧
      t.meter.hold = s.meter.hold)

/-! ### Reset -/

/-- R2, R22, R23, R26, R40, R48, R50, R70, R91, R112, R113, R121, R124, R138, R151, R155, R163: the state after reset.
The strap setting 0, the line in sync and the bank found not valid are the model's choices (log entries 2 to 4); with
them the block count is 8,192, the first grant of 64 has been made (R43), RETENTION LOST is set and its alert is
queued (R138). -/
def Obligations.ResetState : Prop :=
  State.reset.time = 0 ∧ State.reset.supply = { halted := false, bankValid := true } ∧
    State.reset.link = { lineInSync := true, up := true, errors := 0, overflow := false, responses := [], replies := [],
                         tx := none, sent := none } ∧
    State.reset.intake = { outstanding := 64, waiting := some 64, kept := 0, state := .run, low := 512, high := 1024 } ∧
    State.reset.store = { blockCount := 8192, free := List.range' 0 8192, dram := [] } ∧
    (∀ i : Slot, State.reset.job i = Job.freed 0) ∧ State.reset.jobs.openList = [] ∧ State.reset.jobs.endList = [] ∧
    (∀ c : ClassId, State.reset.classes[c] = { pool := none, priority := 0, holdOnOpen := false, threshold := none }) ∧
    (∀ p : PoolId, State.reset.pool p = { threshold := 0, fallback := none, rotor := 0 }) ∧
    (∀ l : LaneId, State.reset.lane l =
      { enabled := false, pool := none, zone := 0, stallCeiling := 20000, stallFloor := 2000, recoveryDelay := 30,
        state := .offline, effPool := none, job := none, sendPos := 0, prologueDue := false, inSheet := false,
        resume := none, roomWait := false, credits := 0, inFlight := [], command := none, stallCaused := false,
        stream := [], mirror := 0, delta := 0, misses := 0, pollOut := false, pollDue := false, pollTimer := none,
        stallTimer := none, recoveryTimer := none, lastSheet := none, capture := none, lastToken := none }) ∧
    (∀ m : MediaId, State.reset.meter.tariff[m] = { w0 := 16, w1 := 16, w2 := 16, duplex := 32 }) ∧
    (∀ a : AccountId, State.reset.meter.accounts[a] = { enabled := false, factor := 128, budget := none } ∧
      State.reset.meter.bank.meters[a] = { total := 0, sheets := 0, saturated := false } ∧
      State.reset.meter.reserved[a] = 0) ∧
    State.reset.meter.bank.retentionLost = true ∧ State.reset.meter.held = [] ∧ State.reset.meter.hold = none ∧
    State.reset.alerts.queue.map (fun e => (e.source, e.kind, e.occurrences)) = [(.system, .retentionLost, 1)] ∧
    State.reset.alerts.overflow = false ∧ State.reset.alerts.office = 0 ∧
    (∀ z : ZoneId, State.reset.zone z =
      { urgentOn := 25, urgentPeriod := 50, noticeOn := 50, noticePeriod := 200, escalation := 0, display := .dark,
        escalated := false, count := 0, generator := none })

/-- The laws below hold at reset. -/
def Obligations.ResetMeetsTheLaws : Prop :=
  State.reset.StoreLaw ∧ State.reset.QueueLaw ∧ State.reset.IntakeLaw ∧ State.reset.AlertLaw ∧ State.reset.ZoneLaw ∧
    State.reset.LaneLaw ∧ State.reset.MeterLaw ∧ State.reset.ReservationLaw ∧ State.reset.DispatchLaw ∧
    State.reset.TagLaw ∧ State.reset.MeterRanges ∧ State.reset.JobLaw ∧ State.reset.CountsFit ∧
    State.reset.FillingUnsent ∧ State.reset.CreditLaw

/-! ### Laws that every step keeps -/

/-- R25, log entry 10: the memory keeps its canonical form. R132, R159, R160: the response queue, the reply queue and
the held-charge list keep within their places, and nothing is held while no hold is in progress. R9: no two live jobs
come to share a tag, where the laws on jobs hold (they are kept too, as stated below). -/
def Obligations.StepKeepsStoreAndQueueLaws : Prop :=
  (∀ s t : State, s.StoreLaw → step s = .next t → t.StoreLaw) ∧
  (∀ s t : State, s.QueueLaw → step s = .next t → t.QueueLaw) ∧
  (∀ s t : State, s.JobLaw → s.CountsFit → step s = .next t → t.TagLaw)

/-- R39, R40, R41: the watermarks stay in order, the intake state follows the free-block count, and the law on
credits. R42, R165: the count of a waiting CREDIT stays 1 to 64, and that of one in flight with what is kept apart
meanwhile at most 64, the counts saturating (R1; log entry 43, DEDUCED). -/
def Obligations.StepKeepsIntakeLaw : Prop :=
  (∀ s t : State, s.IntakeLaw → step s = .next t → t.IntakeLaw) ∧
  (∀ s t : State, s.CreditLaw → step s = .next t → t.CreditLaw)

/-- R142, R143: the alert queue keeps its length, its keys and its order. -/
def Obligations.StepKeepsAlertLaw : Prop :=
  ∀ s t : State, s.AlertLaw → step s = .next t → t.AlertLaw

/-- R152, R153, R154: the law on beacons. -/
def Obligations.StepKeepsZoneLaw : Prop :=
  ∀ s t : State, s.ZoneLaw → step s = .next t → t.ZoneLaw

/-- R69, R70, R72, R73, R78, R84, R95, R96: every lane's record stays legal. R3, R8, R9, R18, R19, R21, R26, R27, R35,
R36, R74 to R78: the laws on jobs, while no count of stored sheets is about to saturate (R1): each record's sheets are
delivered, in flight or unsent, and its restart point is the mark of the next unsent sheet; a lane's in-flight list is
its job's sheets in flight, in order; a PRINTING job and its lane name each other; the open list and the end list hold
the live and the DONE slots once each; no two live jobs share a tag; every block is free or in exactly one chain; and
every byte of a job's prologue and from its release point to its stored end stands in its chain and has been written
(R37, R38; from its delivered point while the prologue is sent again). Where these laws hold, LANE READ ends in no
fault, and no DATA or MARK meets a lost content position (log entry 14, DEDUCED). -/
def Obligations.StepKeepsLaneLaw : Prop :=
  (∀ s t : State, s.LaneLaw → step s = .next t → t.LaneLaw) ∧
  (∀ s t : State, s.JobLaw → s.CountsFit → step s = .next t → t.JobLaw) ∧
  (∀ s : State, s.JobLaw →
     (∀ l : LaneId, ∃ t : State, exec (.laneRead l) s = .next t) ∧
     (∀ h seq payload, exec (.data h seq payload) s ≠ .fault .contentPositionLost) ∧
     ∀ h seq media sides colour, exec (.mark h seq media sides colour) s ≠ .fault .contentPositionLost)

/-- R113, R120, R121, R123, R124: the settings and totals of the METER UNIT stay in their ranges. R119, R121, R125,
R132: so do the budgets, the lane counters and the held entries, of which no two are for one account and each is for
an account of the hold range; the charges in flight are in their range by the law on reservations (R115, R124). -/
def Obligations.StepKeepsMeterLaw : Prop :=
  (∀ s t : State, s.MeterLaw → step s = .next t → t.MeterLaw) ∧
  (∀ s t : State, s.ReservationLaw → s.MeterRanges → step s = .next t → t.MeterRanges)

/-- R124: "every account's reserved total equals the sum of the charges of all in-flight entries, across all lanes,
whose account it is". -/
def Obligations.StepKeepsReservationLaw : Prop :=
  ∀ s t : State, s.ReservationLaw → step s = .next t → t.ReservationLaw

/-- R58: "As a result, an IDLE lane and a candidate of its pool are never left waiting for each other." -/
def Obligations.StepKeepsDispatchLaw : Prop :=
  ∀ s t : State, s.DispatchLaw → step s = .next t → t.DispatchLaw

/-! ### Jobs -/

/-- R9: the checks of an OPEN in their order; a refused OPEN adds its REFUSE, which names the tag, and changes nothing
else. R10: an OPEN that passes the checks of R9 takes the lowest-numbered FREE slot and fills its record; the slot
joins the tail of the open list and an OPENED frame joins the response queue. Nothing else changes. R9: the law on
tags is kept by OPEN: if no two live jobs carry one tag, none do after it. R9, R157: an OPEN that finds the response
queue full is discarded untaken; only RESPONSE OVERFLOW is set. -/
def Obligations.OpenRequests : Prop :=
  (∀ (s : State) (tag : Word) (cls account : Byte), s.Admits →
     let refused (code : RefusalCode) := exec (.openJob tag cls account) s = .next
       { s with link := { s.link with responses := s.link.responses ++ [.refuse 0x01 code (.tag tag)] } }
     (64 ≤ cls.toNat → refused .noRoute) ∧
     ∀ c : ClassId, c.val = cls.toNat →
       (s.classes[c].pool = none → refused .noRoute) ∧
       (s.classes[c].pool ≠ none → 128 ≤ account.toNat → refused .noAccount) ∧
       ∀ a : AccountId, a.val = account.toNat → s.classes[c].pool ≠ none →
         (s.meter.accounts[a].enabled = false → refused .noAccount) ∧
         (s.meter.accounts[a].enabled = true → (∃ j : Slot, (s.job j).state ≠ .free ∧ (s.job j).tag = tag) →
           refused .duplicateTag) ∧
         (s.meter.accounts[a].enabled = true → (∀ j : Slot, (s.job j).state ≠ .free ∧ (s.job j).tag ≠ tag) →
           refused .noSlot)) ∧
  (∀ (s : State) (tag : Word) (c : ClassId) (p : PoolId) (a : AccountId) (i : Slot), s.Admits →
     s.classes[c].pool = some p → s.meter.accounts[a].enabled = true →
     (∀ j : Slot, (s.job j).state ≠ .free → (s.job j).tag ≠ tag) →
     (s.job i).state = .free → (∀ j : Slot, j < i → (s.job j).state ≠ .free) →
     exec (.openJob tag (BitVec.ofNat 8 c.val) (BitVec.ofNat 8 a.val)) s = .next
       { s with
         jobs := {
           slots := s.jobs.slots.set i.val
             { gen := (s.job i).gen, tag := tag, cls := c, account := a, pool := p, priority := s.classes[c].priority,
               threshold := s.classes[c].threshold.getD (s.pool p).threshold,
               state := if s.classes[c].holdOnOpen then .held else .filling,
               holdReason := if s.classes[c].holdOnOpen then some .operator else none,
               stop := none, lane := none, outcome := none, prologueEnd := none, isOpen := true, nextSeq := 0,
               chain := [], stored := 0, nextUnsent := 0, inFlight := 0, delivered := 0, spoiled := 0, charge := 0,
               split := false, forced := false, truncated := false, readySince := s.time, storedEnd := 0,
               restart := .following, items := [] } i.isLt,
           openList := s.jobs.openList ++ [i], endList := s.jobs.endList },
         link := { s.link with
           responses := s.link.responses ++ [.opened tag { slot := i, gen := (s.job i).gen }] } }) ∧
  (∀ (s t : State) (tag : Word) (cls account : Byte), exec (.openJob tag cls account) s = .next t →
     (∀ i j : Slot, i ≠ j → (s.job i).state ≠ .free → (s.job j).state ≠ .free → (s.job i).tag ≠ (s.job j).tag) →
     ∀ i j : Slot, i ≠ j → (t.job i).state ≠ .free → (t.job j).state ≠ .free → (t.job i).tag ≠ (t.job j).tag) ∧
  (∀ (s : State) (tag : Word) (cls account : Byte), s.Receives → 16 ≤ s.link.responses.length →
     exec (.openJob tag cls account) s = .next { s with link := { s.link with overflow := true } })

/-- R12: the checks of a CLOSE in their order: STALE, discarded, WRONG STATE, failure with reason SEQUENCE. R12, R13:
a CLOSE that is taken sets open to no and raises next sequence, and then acts by the job's state: it ends COMPLETED,
becomes READY, stays, or has its completion check made. `endNow`, `makeReady`, `complete` and `wake` are what the
statements on ending, becoming READY, completion and waiting lanes describe. R12: a CLOSE consumes no intake credit.
-/
def Obligations.CloseRequests : Prop :=
  (∀ (s : State) (h : Handle) (seq : Half), s.Admits →
     let refused (code : RefusalCode) := exec (.close h seq) s = .next
       { s with link := { s.link with responses := s.link.responses ++ [.refuse 0x04 code (.handle h)] } }
     (¬s.Names h → refused .stale) ∧
     (s.Names h → (s.job h.slot).Ending → exec (.close h seq) s = .next s) ∧
     (s.Names h → ¬(s.job h.slot).Ending → (s.job h.slot).isOpen = false → refused .wrongState) ∧
     (s.Addresses h → seq ≠ (s.job h.slot).nextSeq → exec (.close h seq) s = .next (s.fail h.slot .sequence))) ∧
  (∀ (s : State) (h : Handle), s.Admits → s.Addresses h →
     let j := s.job h.slot
     let t := s.setJob h.slot { j with isOpen := false, nextSeq := j.nextSeq + 1 }
     exec (.close h j.nextSeq) s = .next
       (match j.state, j.lane with
         | .filling, _ => if j.delivered = j.stored then t.endNow h.slot .completed else t.makeReady h.slot
         | .ready, _ => if j.delivered = j.stored ∧ j.inFlight = 0 then t.endNow h.slot .completed else t
         | .held, _ => if j.delivered = j.stored then t.endNow h.slot .completed else t
         | .printing, some l =>
           if j.delivered = j.stored ∧ (s.lane l).sendPos = j.storedEnd ∧ (s.lane l).prologueDue = false then
             t.complete h.slot l
           else t.wake l h.slot
         | _, _ => t)) ∧
  (∀ (s t : State) (h : Handle) (seq : Half), exec (.close h seq) s = .next t →
     s.intake.outstanding ≤ t.intake.outstanding)

/-- R15: a CANCEL acts by the job's state: it ends the job CANCELLED, sets or settles the stop request of a PRINTING
job whose open becomes no (and whose lane meets it, R82), or is refused with STALE or TOO LATE. -/
def Obligations.CancelActsByTheJobsState : Prop :=
  ∀ (s : State) (h : Handle), s.Admits →
    let j := s.job h.slot
    let refused (code : RefusalCode) := exec (.cancel h) s = .next
      { s with link := { s.link with responses := s.link.responses ++ [.refuse 0x05 code (.handle h)] } }
    (¬s.Names h → refused .stale) ∧
    (s.Names h → j.state ∈ [JobState.filling, .ready, .held] →
      exec (.cancel h) s = .next (s.endNow h.slot .cancelled)) ∧
    (s.Names h → j.state = .printing → (∃ r, j.stop = some (.fail r)) → refused .tooLate) ∧
    (s.Names h → j.state = .printing → (∀ r, j.stop ≠ some (.fail r)) →
      exec (.cancel h) s = .next
        (let t := s.setJob h.slot { j with isOpen := false, stop := some .cancel }
         match j.lane with
          | some l => t.meetStop l h.slot
          | none => t)) ∧
    (j.state = .done → j.gen = h.gen → refused .tooLate)

/-- R17: a RELEASE of a HELD OPERATOR job removes the hold reason; the job becomes READY if it is eligible (R11) and
FILLING otherwise. Every other RELEASE is refused with STALE or WRONG STATE. R17: a RELEASE that is taken produces no
frame. -/
def Obligations.ReleaseLeavesAnOperatorHold : Prop :=
  (∀ (s : State) (h : Handle), s.Admits →
     let j := s.job h.slot
     let refused (code : RefusalCode) := exec (.release h) s = .next
       { s with link := { s.link with responses := s.link.responses ++ [.refuse 0x06 code (.handle h)] } }
     let eligible := j.isOpen = false ∨ (1 ≤ j.threshold ∧ j.threshold ≤ j.stored) ∨ j.forced = true
     (¬s.Names h → refused .stale) ∧
     (s.Names h → ¬(j.state = .held ∧ j.holdReason = some .operator) → refused .wrongState) ∧
     (s.Names h → j.state = .held → j.holdReason = some .operator → eligible →
       exec (.release h) s = .next (s.makeReady h.slot)) ∧
     (s.Names h → j.state = .held → j.holdReason = some .operator → ¬eligible →
       exec (.release h) s = .next (s.setJob h.slot { j with state := .filling, holdReason := none }))) ∧
  (∀ (s : State) (h : Handle), s.Admits → s.Names h → (s.job h.slot).state = .held →
     (s.job h.slot).holdReason = some .operator → ∃ t : State, exec (.release h) s = .next t ∧ t.link = s.link)

/-- R6: a stop request that meets another. R82, R83: how a lane meets a stop request that has been set for its job in
slot `i`: applied at once in JAMMED and RECOVERING; in SENDING and STARVED at a sheet boundary the lane drains, and a
STARVED lane inside a sheet reads again; in PAUSED and DRAINING it stands. -/
def Obligations.StopRequests : Prop :=
  (∀ (present : Option StopRequest) (r : FailReason),
     StopRequest.settle none .hold = .hold ∧ StopRequest.settle none .requeue = .requeue ∧
     StopRequest.settle present .cancel = (match present with | some (.fail q) => .fail q | _ => .cancel) ∧
     StopRequest.settle present (.fail r) =
       (match present with | some (.fail q) => .fail q | some .cancel => .cancel | _ => .fail r) ∧
     ∀ p : StopRequest, StopRequest.settle (some p) .hold = p ∧ StopRequest.settle (some p) .requeue = p) ∧
  (∀ (s : State) (l : LaneId) (i : Slot),
     let x := s.lane l
     let boundary := x.inSheet = false ∧ x.prologueDue = false
     (x.state = .jammed ∨ x.state = .recovering → s.meetStop l i = s.applyStop l) ∧
     (x.state = .sending ∨ x.state = .starved → boundary → s.meetStop l i = s.drain l) ∧
     (x.state = .sending → ¬boundary → s.meetStop l i = s) ∧
     (x.state = .starved → ¬boundary → s.meetStop l i = s.wake l i) ∧
     (x.state = .paused ∨ x.state = .draining → s.meetStop l i = s) ∧
     (x.state = .sending ∨ x.state = .starved → x.inFlight ≠ [] →
       ((s.drain l).lane l).state = .draining ∧ ((s.drain l).lane l).inFlight = x.inFlight ∧
       ((s.drain l).lane l).job = x.job ∧ (s.drain l).jobs = s.jobs) ∧
     (x.state = .sending ∨ x.state = .starved → x.inFlight = [] → ∃ y : Lane,
       s.drain l = (s.setLane l y).applyStop l ∧ y.state = .draining ∧ y.job = x.job ∧ y.enabled = x.enabled ∧
         y.stream = x.stream))

/-- R83, R20, R21: a stop request applied. The lane puts JOB FINISH in its job stream and carries the job no more: it
is OFFLINE when it is not enabled, stays JAMMED when it is jammed, and is otherwise IDLE, or has been assigned a job,
which is its next one, or this one again after a REQUEUE. CANCEL and FAIL end the job; HOLD leaves it HELD BUDGET with
a BUDGET HOLD alert of its account; REQUEUE makes it READY, or its next assignment, with SPLIT set when it has
delivered a sheet. -/
def Obligations.ApplyingAStopRequest : Prop :=
  ∀ (s : State) (l : LaneId) (h : Handle) (r : StopRequest), (s.lane l).job = some h → (s.job h.slot).stop = some r →
    (s.lane l).state ≠ .idle →
    let t := s.applyStop l
    let j := s.job h.slot
    (∃ more, (t.lane l).stream = (s.lane l).stream ++ [.jobFinish] ++ more) ∧ (t.lane l).effPool = (s.lane l).pool ∧
    ((s.lane l).enabled = false → (t.lane l).state = .offline ∧ (t.lane l).job = none) ∧
    ((s.lane l).enabled = true → (s.lane l).state = .jammed → (t.lane l).state = .jammed ∧ (t.lane l).job = none) ∧
    ((s.lane l).enabled = true → (s.lane l).state ≠ .jammed →
      (t.lane l).state = .idle ∧ (t.lane l).job = none ∧ (t.lane l).stream = (s.lane l).stream ++ [.jobFinish] ∨
      (t.lane l).state ∈ [LaneState.sending, .paused] ∧ ∃ i : Slot, (t.lane l).job = some (s.handleOf i) ∧
        (t.job i).state = .printing ∧ (t.job i).lane = some l ∧ (i = h.slot → r = .requeue)) ∧
    (r ≠ .requeue → (t.job h.slot).lane = none) ∧
    (r = .cancel → (t.job h.slot).state = .done ∧ (t.job h.slot).outcome = some .cancelled) ∧
    (∀ why, r = .fail why → (t.job h.slot).state = .done ∧ (t.job h.slot).outcome = some (.failed why)) ∧
    (r = .hold → (t.job h.slot).state = .held ∧ (t.job h.slot).holdReason = some .budget ∧
      (t.job h.slot).stop = none ∧ (t.job h.slot).lane = none ∧
      t.alerts = (s.raiseAccount j.account .budgetHold).alerts) ∧
    (r = .requeue → (t.job h.slot).state ∈ [JobState.ready, .printing] ∧ (t.job h.slot).stop = none ∧
      (t.job h.slot).readySince = s.time ∧ (t.job h.slot).split = (j.split || decide (0 < j.delivered))) ∧
    (r ≠ .hold → t.alerts = s.alerts) ∧ t.meter = s.meter ∧ t.link = s.link ∧ t.store.dram = s.store.dram ∧
    (t.job h.slot).delivered = j.delivered ∧ (t.job h.slot).charge = j.charge ∧ (t.job h.slot).stored = j.stored

/-- R11: becoming READY. The hold reason, the stop request and the lane go and ready-since is the present time; the
arbiter is told. A READY job that is not assigned at once stands as said, every other field of its record as it was,
and no byte, meter, alert or frame changes. An assigned job with an empty prologue may pass blocks at once, which are
released (R37, R74 step 3; log entry 25); with none such waiting, no block and no credit moves either. -/
def Obligations.BecomingReady : Prop :=
  ∀ (s : State) (i : Slot),
    (s.makeReady i).pending = s.pending ∧ (s.makeReady i).store.dram = s.store.dram ∧
    (s.makeReady i).store.blockCount = s.store.blockCount ∧
    (∃ more, (s.makeReady i).store.free = s.store.free ++ more) ∧
    ((∀ k : Slot, k = i ∨ (s.job k).state = .ready → (s.job k).prologueEnd ≠ some 0) →
      (s.makeReady i).store = s.store ∧ (s.makeReady i).intake = s.intake) ∧
    (s.makeReady i).meter = s.meter ∧ (s.makeReady i).alerts = s.alerts ∧ (s.makeReady i).link = s.link ∧
    ((s.makeReady i).job i =
        { s.job i with state := .ready, holdReason := none, stop := none, lane := none, readySince := s.time } ∨
      ∃ (l : LaneId) (chain : List ChainEntry), (s.lane l).state = .idle ∧
        ((s.makeReady i).lane l).job = some (s.handleOf i) ∧ chain.Sublist (s.job i).chain ∧
        ((s.job i).prologueEnd ≠ some 0 → chain = (s.job i).chain) ∧
        (s.makeReady i).job i =
          { s.job i with state := .printing, holdReason := none, stop := none, lane := some l, readySince := s.time,
                         chain := chain }) ∧
    ((∀ l : LaneId, (s.lane l).state ≠ .idle) → s.makeReady i = s.setJob i
      { s.job i with state := .ready, holdReason := none, stop := none, lane := none, readySince := s.time })

/-- R21: the end of a job: DONE with its outcome, hold reason, stop request, lane and open removed, the chain returned
in chain order to the tail of the free-block list, and the slot at the tail of the end list. Every other job and every
lane stays as it was, and every stored byte stays. R18: a failing job that is not PRINTING ends FAILED with its
reason; a PRINTING one gets the FAIL request, or has its present request settled, and its lane meets it (R82). Open is
no either way, and a DONE job is left as it is. R14, R21, R81: a complete job ends COMPLETED, its lane puts JOB FINISH
in its job stream and carries no job, and the lane's effective pool is its configured pool (R53). The lane goes to
OFFLINE when it is not enabled, stays JAMMED when it is jammed, and is otherwise IDLE, or carries its next job. -/
def Obligations.EndingAndFailingJobs : Prop :=
  (∀ (s : State) (i : Slot) (o : JobOutcome),
     (s.endJob i o).job i =
       { s.job i with state := .done, outcome := some o, holdReason := none, stop := none, lane := none, isOpen := false,
                      chain := [] } ∧
     (s.endJob i o).store =
       { s.store with free := s.store.free ++ (s.job i).chain.map ChainEntry.block } ∧
     (s.endJob i o).jobs.endList = s.jobs.endList ++ [i] ∧ (s.endJob i o).jobs.openList = s.jobs.openList ∧
     (s.endJob i o).meter = s.meter ∧ (s.endJob i o).alerts = s.alerts ∧ (s.endJob i o).link = s.link ∧
     (s.endJob i o).lanes = s.lanes ∧ ∀ k : Slot, k ≠ i → (s.endJob i o).job k = s.job k) ∧
  (∀ (s : State) (i : Slot) (why : FailReason),
     let j := s.job i
     (j.state ∈ [JobState.filling, .ready, .held] →
       s.fail i why = (s.setJob i { j with isOpen := false }).endNow i (.failed why)) ∧
     (j.state = .done → s.fail i why = s) ∧
     ∀ l : LaneId, j.state = .printing → j.lane = some l →
       s.fail i why = (s.setJob i
         { j with isOpen := false,
                  stop := some (match j.stop with
                   | some .cancel => .cancel
                   | some (.fail q) => .fail q
                   | _ => .fail why) }).meetStop l i) ∧
  (∀ (s : State) (i : Slot) (l : LaneId), (s.lane l).state ≠ .idle →
     let t := s.complete i l
     (t.job i).state = .done ∧ (t.job i).outcome = some .completed ∧ i ∈ t.jobs.endList ∧
     (t.lane l).effPool = (s.lane l).pool ∧ (∃ more, (t.lane l).stream = (s.lane l).stream ++ [.jobFinish] ++ more) ∧
     ((s.lane l).enabled = false → (t.lane l).state = .offline ∧ (t.lane l).job = none) ∧
     ((s.lane l).enabled = true → (s.lane l).state = .jammed → (t.lane l).state = .jammed ∧ (t.lane l).job = none) ∧
     ((s.lane l).enabled = true → (s.lane l).state ≠ .jammed →
       ((t.lane l).state = .idle ∧ (t.lane l).job = none) ∨
         ((t.lane l).state ∈ [LaneState.sending, .paused] ∧ (t.lane l).job ≠ none)) ∧
     t.store.dram = s.store.dram ∧ t.meter = s.meter ∧ t.alerts = s.alerts ∧ t.link = s.link)

/-! ### Content, credits and the intake state -/

/-- R29 to R34: the checks of a DATA or MARK in their order. A frame that finds credits outstanding spends one
whatever becomes of it (R30), and a grant is evaluated when it has been settled (R41; the moment is log entry 16,
DEDUCED); for a frame that is taken the two statements below say so. A REFUSE that finds the response queue full is
discarded untaken and sets RESPONSE OVERFLOW (R157). -/
def Obligations.ContentIsCheckedInOrder : Prop :=
  ∀ (s : State) (h : Handle) (seq : Half) (c : Instr) (kind : Byte), s.Receives →
    ((∃ payload, 1 ≤ payload.length ∧ payload.length ≤ 1024 ∧ c = .data h seq payload ∧ kind = 0x02) ∨
      ∃ media sides colour, c = .mark h seq media sides colour ∧ kind = 0x03) →
    let u := { s with intake := { s.intake with outstanding := s.intake.outstanding - 1 } }
    let settled (t : State) := exec c s = .next (if s.intake.outstanding = 0 then t else t.evalGrant)
    let refused (code : RefusalCode) := settled
      (if s.link.responses.length < 16 then
        { u with link := { u.link with responses := u.link.responses ++ [.refuse kind code (.handle h)] } }
      else { u with link := { u.link with overflow := true } })
    (¬s.Names h → refused .stale) ∧
    (s.Names h → (s.job h.slot).Ending → settled u) ∧
    (s.Names h → ¬(s.job h.slot).Ending → (s.job h.slot).isOpen = false → refused .wrongState) ∧
    (s.Addresses h → s.intake.outstanding = 0 → exec c s = .next
      ((s.setJob h.slot { s.job h.slot with truncated := true }).fail h.slot .overrun)) ∧
    (s.Addresses h → 1 ≤ s.intake.outstanding → seq ≠ (s.job h.slot).nextSeq →
      exec c s = .next ((u.fail h.slot .sequence).evalGrant))

/-- R27, R28, R30, R31: a DATA that passes the checks is taken. One data run of 4 bytes plus the payload joins the job
at its stored end, next sequence rises by one, and a block is taken from the head of the free-block list exactly when
the item needs one. The payload stands in the chain's blocks from 4 bytes past the old stored end; every byte of
memory outside the item's places reads as before. A lane STARVED at the stored end is SENDING again (R47, R80). No
other job's content, no meter, alert or answer changes. The frame spends one credit (R30), and a grant is evaluated
(R41; log entry 16, DEDUCED). (A FILLING job has sent nothing, which is an invariant by the laws on jobs, so a forced
start in STOP passes no block, R45.) -/
def Obligations.DataIsTaken : Prop :=
  ∀ (s : State) (h : Handle) (payload : List Byte), s.Receives → s.Addresses h → 1 ≤ payload.length →
    payload.length ≤ 1024 → 1 ≤ s.intake.outstanding → s.intake.outstanding ≤ s.store.free.length → s.FillingUnsent →
    let j := s.job h.slot
    let last := j.storedEnd + 3 + payload.length
    (j.storedEnd % 4096 ≠ 0 → addressOf j.chain j.storedEnd ≠ none) →
    let new := j.storedEnd % 4096 = 0 ∨ j.storedEnd / 4096 ≠ last / 4096
    ∃ t : State, exec (.data h j.nextSeq payload) s = .next t ∧
      (t.job h.slot).nextSeq = j.nextSeq + 1 ∧ (t.job h.slot).storedEnd = last + 1 ∧
      (t.job h.slot).items = j.items ++ [{ pos := j.storedEnd, body := .run payload.length }] ∧
      (t.job h.slot).stored = j.stored ∧ (t.job h.slot).isOpen = true ∧
      (¬new → (t.job h.slot).chain = j.chain ∧ t.store.free = s.store.free) ∧
      (new → ∃ b, s.store.free = b :: t.store.free ∧
        (t.job h.slot).chain = j.chain ++ [{ block := b, ordinal := last / 4096 }]) ∧
      (∀ k b, payload[k]? = some b → ∃ a, addressOf (t.job h.slot).chain (j.storedEnd + 4 + k) = some a ∧
        t.store.dram.read a = some b) ∧
      (∀ a, (∀ q, j.storedEnd ≤ q → q ≤ last → addressOf (t.job h.slot).chain q ≠ some a) →
        t.store.dram.read a = s.store.dram.read a) ∧
      (∀ i : Slot, i ≠ h.slot → (t.job i).chain = (s.job i).chain ∧ (t.job i).items = (s.job i).items ∧
        (t.job i).nextSeq = (s.job i).nextSeq) ∧
      (∀ l : LaneId, j.state = .printing → j.lane = some l → (s.lane l).state = .starved →
        (s.lane l).sendPos = j.storedEnd → (t.lane l).state = .sending ∧ (t.lane l).sendPos = j.storedEnd) ∧
      (let o := s.intake.outstanding - 1
       let g := min (64 - o) (t.store.free.length - s.intake.low - o)
       t.intake.outstanding =
         if t.intake.state = .run ∧ (8 ≤ g ∨ o = 0 ∧ 1 ≤ g) then o + g else o) ∧
      t.meter = s.meter ∧ t.alerts = s.alerts ∧ t.link = s.link ∧ t.classes = s.classes

/-- R27, R28, R30, R32: a MARK that passes the checks is taken. Its fields are clamped; an 8-byte item joins the job
at its stored end; prologue end is set to its position if it was absent; sheets stored and next sequence rise; a
following restart point is fixed at the mark. R11, R32 steps 4 to 6: a FILLING job that reaches its threshold becomes
READY now, and may be assigned at once; one that does not stays FILLING but for a forced start; the lane of a PRINTING
job that waits at the stored end reads the mark, and in a sheet it has reached the next one (R75); and in STOP the
forced-start check leaves nothing to start (R45). Every byte of memory outside the item's places reads as before. The
frame spends one credit (R30), and a grant is evaluated (R41; log entry 16, DEDUCED). (The premises that a FILLING job
has sent nothing and that no IDLE lane and candidate wait for each other are invariants, stated above.) -/
def Obligations.MarkIsTaken : Prop :=
  ∀ (s : State) (h : Handle) (media sides colour : Byte), s.Receives → s.Addresses h →
    1 ≤ s.intake.outstanding → s.intake.outstanding ≤ s.store.free.length → s.FillingUnsent → s.DispatchLaw →
    let j := s.job h.slot
    let last := j.storedEnd + 7
    (j.storedEnd % 4096 ≠ 0 → addressOf j.chain j.storedEnd ≠ none) →
    let new := j.storedEnd % 4096 = 0 ∨ j.storedEnd / 4096 ≠ last / 4096
    ∃ t : State, exec (.mark h j.nextSeq media sides colour) s = .next t ∧
      (∃ m : Mark, (t.job h.slot).items = j.items ++ [{ pos := j.storedEnd, body := .mark m }] ∧
        m.media.val = min media.toNat 15 ∧ (m.sides = .one ↔ sides.toNat ≤ 1) ∧
        (m.colour = .mono ↔ colour = 0) ∧ (m.colour = .accent ↔ colour = 1)) ∧
      (t.job h.slot).nextSeq = j.nextSeq + 1 ∧ (t.job h.slot).storedEnd = last + 1 ∧
      (t.job h.slot).prologueEnd = some (j.prologueEnd.getD j.storedEnd) ∧
      (t.job h.slot).stored = min (j.stored + 1) 4294967295 ∧
      (j.restart = .following → (t.job h.slot).restart = .fixed j.storedEnd) ∧
      (∀ p, j.restart = .fixed p → (t.job h.slot).restart = .fixed p) ∧
      (let met := 1 ≤ j.threshold ∧ j.threshold ≤ (t.job h.slot).stored
       (j.state = .filling → met → (t.job h.slot).state ∈ [JobState.ready, .printing] ∧
         (t.job h.slot).readySince = s.time ∧ (t.job h.slot).stop = none) ∧
       (j.state = .filling → ¬met → (t.job h.slot).state = .filling ∧ (t.job h.slot).forced = j.forced ∨
         (t.job h.slot).state ∈ [JobState.ready, .printing] ∧ (t.job h.slot).forced = true)) ∧
      (j.state = .held → (t.job h.slot).state = .held) ∧
      (∀ l : LaneId, j.state = .printing → j.lane = some l → (s.lane l).sendPos = j.storedEnd →
        ((s.lane l).state = .starved → t.lane l =
          { s.lane l with state := .sending, inSheet := false, recoveryTimer := none }) ∧
        ((s.lane l).state ∈ [LaneState.sending, .paused, .draining] → t.lane l = { s.lane l with inSheet := false })) ∧
      (t.intake.state = .stop → t.forcedStart = t) ∧
      (¬new → (t.job h.slot).chain = j.chain ∧ t.store.free = s.store.free) ∧
      (new → ∃ b, s.store.free = b :: t.store.free ∧
        (t.job h.slot).chain = j.chain ++ [{ block := b, ordinal := last / 4096 }]) ∧
      (∀ q, j.storedEnd ≤ q → q ≤ last →
        ∃ a, addressOf (t.job h.slot).chain q = some a ∧ t.store.dram.read a ≠ none) ∧
      (∀ a, (∀ q, j.storedEnd ≤ q → q ≤ last → addressOf (t.job h.slot).chain q ≠ some a) →
        t.store.dram.read a = s.store.dram.read a) ∧
      (∀ i : Slot, i ≠ h.slot → (t.job i).chain = (s.job i).chain ∧ (t.job i).items = (s.job i).items ∧
        (t.job i).nextSeq = (s.job i).nextSeq) ∧
      (let o := s.intake.outstanding - 1
       let g := min (64 - o) (t.store.free.length - s.intake.low - o)
       t.intake.outstanding =
         if t.intake.state = .run ∧ (8 ≤ g ∨ o = 0 ∧ 1 ≤ g) then o + g else o) ∧
      t.meter = s.meter ∧ t.alerts = s.alerts ∧ t.link = s.link ∧ t.classes = s.classes

/-- R41, R42, R165: a grant evaluation. While the link is UP and the state is RUN, the lesser of 64 − outstanding and
free − low − outstanding is granted when it is at least 8, or at least 1 with none outstanding; it raises outstanding
credits and joins the waiting CREDIT, which saturates at 64, or is kept apart while a CREDIT is in flight, where the
two together saturate at 64 (R1; log entry 43, DEDUCED). Nothing else changes. R39, R41, R45: the intake state at a
check. In RUN it becomes STOP at or below the low watermark, with the forced-start check; in STOP it becomes RUN at or
above the high watermark, with a grant evaluation; otherwise nothing changes. R45: forced start does nothing while a
job is READY or PRINTING, or when no FILLING job with a stored sheet stands in the open list; otherwise it takes the
first such job, sets FORCED and makes it READY. R45, log entry 17: the forced-start check is made again in STOP when
the number of READY and PRINTING jobs has fallen to 0, at the end of an ending that is made at once (R21), a
completion (R81), a stop request applied (R83), a lane loss (R97), an INIT (R88) and a LINK DOWN (R166) (the moment is
DEDUCED). -/
def Obligations.GrantsAndTheIntakeState : Prop :=
  (∀ s : State,
     let g := min (64 - s.intake.outstanding) (s.store.free.length - s.intake.low - s.intake.outstanding)
     let granted := s.link.up = true ∧ s.intake.state = .run ∧ (8 ≤ g ∨ s.intake.outstanding = 0 ∧ 1 ≤ g)
     (¬granted → s.evalGrant = s) ∧
     (granted → (∀ n, s.link.tx ≠ some (.credit n)) → s.evalGrant =
       { s with intake := { s.intake with
           outstanding := s.intake.outstanding + g, waiting := some (min (s.intake.waiting.getD 0 + g) 64) } }) ∧
     ∀ n, granted → s.link.tx = some (.credit n) → s.evalGrant =
       { s with intake := { s.intake with
           outstanding := s.intake.outstanding + g, kept := min (s.intake.kept + g) (64 - n) } }) ∧
  (∀ s : State,
     (s.intake.state = .run → s.intake.low < s.store.free.length → s.checkIntake = s) ∧
     (s.intake.state = .run → s.store.free.length ≤ s.intake.low →
       s.checkIntake = ({ s with intake := { s.intake with state := .stop } } : State).forcedStart) ∧
     (s.intake.state = .stop → s.store.free.length < s.intake.high → s.checkIntake = s) ∧
     (s.intake.state = .stop → s.intake.high ≤ s.store.free.length →
       s.checkIntake = ({ s with intake := { s.intake with state := .run } } : State).evalGrant)) ∧
  (∀ s : State,
     let fits (i : Slot) := (s.job i).state = .filling ∧ 1 ≤ (s.job i).stored
     ((∃ i : Slot, (s.job i).state = .ready ∨ (s.job i).state = .printing) → s.forcedStart = s) ∧
     ((∀ i ∈ s.jobs.openList, ¬fits i) → s.forcedStart = s) ∧
     ∀ (older younger : List Slot) (i : Slot), (∀ k : Slot, (s.job k).state ≠ .ready ∧ (s.job k).state ≠ .printing) →
       s.jobs.openList = older ++ i :: younger → (∀ k ∈ older, ¬fits k) → fits i →
       s.forcedStart = (s.setJob i { s.job i with forced := true }).makeReady i) ∧
  (∀ (s before : State) (i : Slot) (l : LaneId) (o : JobOutcome),
     let busy (t : State) := ∃ k : Slot, (t.job k).state = .ready ∨ (t.job k).state = .printing
     (busy before → ¬busy s → s.intake.state = .stop → s.checkFallen before = s.forcedStart) ∧
     (¬busy before ∨ busy s ∨ s.intake.state = .run → s.checkFallen before = s) ∧
     s.endNow i o = (s.endJob i o).checkFallen s ∧
     s.complete i l =
       (((s.endJob i .completed).setLane l ((s.lane l).leave s.time)).dispatch).checkFallen s) ∧
  (∀ (s : State) (l : LaneId),
     let lost := (s.loseJob l).raiseLost s l
     let init := s.loseJob l
     (∀ (h : Handle) (r : StopRequest), (s.lane l).job = some h → (s.job h.slot).stop = some r →
       let t := (s.settleJob h.slot (some r) false).raiseHold h.slot (some r)
       s.applyStop l = ((t.setLane l ((t.lane l).leave t.time)).dispatch).checkFallen s) ∧
     s.lose l =
       (((lost.setLane l ((lost.lane l).lose lost.time)).raiseLane l .laneDown).dispatch).checkFallen s ∧
     s.initLane l = ((init.setLane l ((init.lane l).initialise init.time)).dispatch).checkFallen s ∧
     s.linkLost = ((inRankOrder s.choices s.openSlots).foldl State.loseLink s.cutLink.loseJobs).checkFallen s)

/-! ### Dispatch -/

/-- R55, R60: a job is a candidate of a pool when it is READY and the pool is its own, which is up, or the fallback of
its own, which is not. A pool is up while a member is in a state other than OFFLINE and DOWN (R54). R55, R56: the
winner of a pool is a candidate that every other candidate comes after: by priority, then by age, then by slot. A pool
without a winner has no candidate. R57: the lane given to the winner is an IDLE member of the pool, and no IDLE member
stands between the rotor and it. R58: at the end of a dispatch pass, a pool with an IDLE member has an empty candidate
set; so after the passes for all pools no IDLE lane and candidate of its pool wait for each other, whatever the state
before. -/
def Obligations.WinnersAndPasses : Prop :=
  (∀ (s : State) (p : PoolId) (i : Slot),
     let q := (s.job i).pool
     let up := ∃ l : LaneId, (s.lane l).effPool = some q ∧ (s.lane l).state ≠ .offline ∧ (s.lane l).state ≠ .down
     (s.isCandidate p i = true ↔
       (s.job i).state = .ready ∧ (up ∧ q = p ∨ ¬up ∧ (s.pool q).fallback = some p))) ∧
  (∀ (s : State) (p : PoolId),
     (∀ i : Slot, s.winner p = some i → s.isCandidate p i = true ∧ ∀ k : Slot, s.isCandidate p k = true → k ≠ i →
       (s.job k).priority < (s.job i).priority ∨
         (s.job k).priority = (s.job i).priority ∧
           (since s.time (s.job k).readySince < since s.time (s.job i).readySince ∨
             since s.time (s.job k).readySince = since s.time (s.job i).readySince ∧ i < k)) ∧
     (s.winner p = none → ∀ i : Slot, s.isCandidate p i = false)) ∧
  (∀ (s : State) (p : PoolId),
     let idle (l : LaneId) := (s.lane l).effPool = some p ∧ (s.lane l).state = .idle
     (∀ l : LaneId, s.chooseLane p = some l →
       idle l ∧ ∀ k : LaneId, idle k → (l - (s.pool p).rotor).val ≤ (k - (s.pool p).rotor).val) ∧
     (s.chooseLane p = none → ∀ l : LaneId, ¬idle l)) ∧
  (∀ s : State, s.dispatch.DispatchLaw ∧
     ∀ (p : PoolId) (l : LaneId), ((s.pass p).lane l).state = .idle → ((s.pass p).lane l).effPool = some p →
       ∀ i : Slot, (s.pass p).isCandidate p i = false)

/-- R57, R61, R74: an assignment of the winner to a lane: the job is PRINTING on the lane with no stop request, the
lane carries it from position 0 with the prologue due (or from the restart point when the prologue is empty), JOB
BEGIN joins the job stream, the lane is SENDING, or PAUSED when its printer is not ready, and the rotor moves to the
lane after. With an empty prologue the move from 0 to the restart point has the chain checked (R37, log entry 25);
with any other nothing else changes. -/
def Obligations.AssignmentStartsTheJob : Prop :=
  ∀ (s : State) (p : PoolId) (i : Slot) (l : LaneId),
    let t := s.assign p i l
    let j := s.job i
    (∃ u : State, t = u.releaseMoved l i 0 ∧ (j.prologueEnd ≠ some 0 → t = u) ∧
      u.job i = { j with state := .printing, lane := some l, stop := none } ∧ u.lanes = t.lanes ∧ u.pools = t.pools ∧
      { u with jobs := s.jobs, lanes := s.lanes, pools := s.pools } = s) ∧
    (∃ chain, chain.Sublist j.chain ∧ (j.prologueEnd ≠ some 0 ∨ j.restartPos < 4096 → chain = j.chain) ∧
      t.job i = { j with state := .printing, lane := some l, stop := none, chain := chain }) ∧
    (t.pool p).rotor = l + 1 ∧ (t.lane l).job = some { slot := i, gen := j.gen } ∧
    (t.lane l).stream = (s.lane l).stream ++ [.jobBegin j.tag (decide (0 < j.delivered) || j.split)] ∧
    (j.prologueEnd ≠ some 0 → (t.lane l).sendPos = 0 ∧ (t.lane l).prologueDue = true) ∧
    (j.prologueEnd = some 0 → (t.lane l).sendPos = j.restartPos ∧ (t.lane l).prologueDue = false) ∧
    (t.lane l).inSheet = false ∧ (t.lane l).credits = (s.lane l).credits ∧
    (notReady (s.lane l).mirror = false → (t.lane l).state = .sending ∧ (t.lane l).resume = none) ∧
    (notReady (s.lane l).mirror = true → (t.lane l).state = .paused ∧ (t.lane l).resume = some .sending) ∧
    (∀ k : Slot, k ≠ i → t.job k = s.job k) ∧ (∀ k : LaneId, k ≠ l → t.lane k = s.lane k) ∧
    ∀ q : PoolId, (t.pool q).threshold = (s.pool q).threshold ∧ (t.pool q).fallback = (s.pool q).fallback

/-! ### Tables -/

/-- R40, R162, R163: a SET of the SYSTEM row stores the high watermark held within 1 to the block count, the low
watermark held below it, the office zone held at 3, and clears the sticky flags written 0. A changed watermark has the
intake state checked and a grant evaluated. Only the first row carried is stored. -/
def Obligations.SetSystemStoresTheRow : Prop :=
  ∀ (s : State) (count : Byte) (w : SystemWrite) (rest : List SystemWrite), s.Admits →
    StoresRows .system 0 count (w :: rest).length → 1 ≤ s.store.blockCount →
    let high := max 1 (min w.high.toNat s.store.blockCount)
    let low := min w.low.toNat (high - 1)
    ∃ t : State,
      t.intake = { s.intake with high := high, low := low } ∧
      t.alerts.office.val = min w.office.toNat 3 ∧ t.alerts.overflow = (s.alerts.overflow && w.alertOverflow) ∧
      t.link = { s.link with overflow := s.link.overflow && w.responseOverflow } ∧
      t.meter = { s.meter with bank := { s.meter.bank with
        retentionLost := s.meter.bank.retentionLost && w.retentionLost } } ∧
      { t with intake := s.intake, link := s.link, meter := s.meter, alerts := s.alerts } = s ∧
      t.alerts.queue = s.alerts.queue ∧ t.alerts.zones = s.alerts.zones ∧
      exec (.setSystem 0 count (w :: rest)) s =
        .next (if high = s.intake.high ∧ low = s.intake.low then t else t.checkIntake.evalGrant)

/-- R48, R113, R162: a SET of the CLASS or the TARIFF table stores each carried row in the row of the run it is
matched to, mapped and clamped, and leaves every other row and the rest of the part as it was. Rows beyond the run are
passed over. -/
def Obligations.SetClassAndTariffStoreTheirRows : Prop :=
  (∀ (s : State) (first count : Byte) (rows : List ClassWrite), s.Admits → StoresRows .cls first count rows.length →
    ∃ t : State, exec (.setClass first count rows) s = .next t ∧ { t with classes := s.classes } = s ∧
      (∀ (k : Nat) (w : ClassWrite) (c : ClassId), k < runLength 64 count → rows[k]? = some w →
        c.val = runRow 64 first.toNat k → t.classes[c] =
          { pool := if hp : w.pool.toNat < 8 then some ⟨w.pool.toNat, hp⟩ else none,
            priority := finClamp 3 w.priority.toNat, holdOnOpen := w.holdOnOpen,
            threshold := if w.threshold = 0 then none else some w.threshold.toNat }) ∧
      ∀ c : ClassId, (∀ k, k < runLength 64 count → c.val ≠ runRow 64 first.toNat k) → t.classes[c] = s.classes[c]) ∧
  ∀ (s : State) (first count : Byte) (rows : List TariffWrite), s.Admits → StoresRows .tariff first count rows.length →
    ∃ t : State, exec (.setTariff first count rows) s = .next t ∧
      { t with meter := { t.meter with tariff := s.meter.tariff } } = s ∧
      (∀ (k : Nat) (w : TariffWrite) (m : MediaId), k < runLength 16 count → rows[k]? = some w →
        m.val = runRow 16 first.toNat k → t.meter.tariff[m] =
          { w0 := min w.w0.toNat 4095, w1 := min w.w1.toNat 4095, w2 := min w.w2.toNat 4095,
            duplex := max 16 (min w.duplex.toNat 32) }) ∧
      ∀ m : MediaId, (∀ k, k < runLength 16 count → m.val ≠ runRow 16 first.toNat k) →
        t.meter.tariff[m] = s.meter.tariff[m]

/-- R50, R51, R162: a SET of the POOL table stores the start threshold and the fallback (the pool's own number as
none) of each named row, keeps the rotors, and runs the dispatch passes when a stored fallback changed. R53, R70, R71,
R162: a SET of the LANE CONFIG table stores pool, zone, stall ceiling, stall floor (held at the ceiling) and recovery
delay of each named row and passes over enabled. The effective pool follows at once on a lane without a job and is
deferred on one with a job; a changed effective pool runs the dispatch passes. Running timers keep their lengths. -/
def Obligations.SetPoolAndLaneConfigStoreTheirRows : Prop :=
  (∀ (s : State) (first count : Byte) (rows : List PoolWrite), s.Admits → StoresRows .pool first count rows.length →
     ∃ t : State, { t with pools := s.pools } = s ∧
       exec (.setPool first count rows) s =
         .next (if ∀ p : PoolId, (t.pool p).fallback = (s.pool p).fallback then t else t.dispatch) ∧
       (∀ (k : Nat) (w : PoolWrite) (p : PoolId), k < runLength 8 count → rows[k]? = some w →
         p.val = runRow 8 first.toNat k → t.pool p =
           { threshold := w.threshold.toNat, rotor := (s.pool p).rotor,
             fallback := if hp : w.fallback.toNat < 8 ∧ w.fallback.toNat ≠ p.val then some ⟨w.fallback.toNat, hp.1⟩
               else none }) ∧
       ∀ p : PoolId, (∀ k, k < runLength 8 count → p.val ≠ runRow 8 first.toNat k) → t.pool p = s.pool p) ∧
  (∀ (s : State) (first count : Byte) (rows : List LaneWrite), s.Admits →
     StoresRows .laneConfig first count rows.length →
     ∃ t : State, { t with lanes := s.lanes } = s ∧
       exec (.setLaneConfig first count rows) s =
         .next (if ∀ l : LaneId, (t.lane l).effPool = (s.lane l).effPool then t else t.dispatch) ∧
       (∀ (k : Nat) (w : LaneWrite) (l : LaneId), k < runLength 16 count → rows[k]? = some w →
         l.val = runRow 16 first.toNat k →
         let pool : Option PoolId := if hp : w.pool.toNat < 8 then some ⟨w.pool.toNat, hp⟩ else none
         t.lane l = { s.lane l with
           pool := pool, zone := finClamp 3 w.zone.toNat, stallCeiling := max 100 w.stallCeiling.toNat,
           stallFloor := min (max 100 w.stallFloor.toNat) (max 100 w.stallCeiling.toNat),
           recoveryDelay := w.recoveryDelay.toNat,
           effPool := if (s.lane l).job = none then pool else (s.lane l).effPool }) ∧
       ∀ l : LaneId, (∀ k, k < runLength 16 count → l.val ≠ runRow 16 first.toNat k) → t.lane l = s.lane l)

/-- R121, R122, R162: a SET of the ACCOUNT table stores enabled, factor and budget of each named row. Meters, reserved
totals and every other row stay. The accounts whose factor or budget changed are re-evaluated (R130), one after
another in run order (log entry 30, DEDUCED); with no HELD BUDGET job of a named account nothing follows. R20, R130: a
budget re-evaluation makes READY each HELD BUDGET job of the account whose next unsent sheet passes the budget check
(R128) and leaves the others. A job that it makes READY is READY or has been assigned, the arbiter being told at each
(log entry 45, DESIGN CHOICE); the METER UNIT and the link stay as they were, and so does the store where no job that
can be assigned has an empty prologue (R37). -/
def Obligations.SetAccountAndReevaluation : Prop :=
  (∀ (s : State) (first count : Byte) (rows : List AccountWrite), s.Admits →
     StoresRows .account first count rows.length →
     ∃ t : State, { t with meter := { t.meter with accounts := s.meter.accounts } } = s ∧
       (∀ (k : Nat) (w : AccountWrite) (a : AccountId), k < runLength 128 count → rows[k]? = some w →
         a.val = runRow 128 first.toNat k → t.meter.accounts[a] =
           { enabled := w.enabled, factor := w.factor.toNat, budget := w.budget.map BitVec.toNat }) ∧
       (∀ a : AccountId, (∀ k, k < runLength 128 count → a.val ≠ runRow 128 first.toNat k) →
         t.meter.accounts[a] = s.meter.accounts[a]) ∧
       (∃ named : List AccountId, named.Nodup ∧
         named.Pairwise (fun a b => ∃ j k : Nat, j < k ∧ k < runLength 128 count ∧
           a.val = runRow 128 first.toNat j ∧ b.val = runRow 128 first.toNat k) ∧
         (∀ a : AccountId, a ∈ named ↔ (t.meter.accounts[a].factor ≠ s.meter.accounts[a].factor ∨
           t.meter.accounts[a].budget ≠ s.meter.accounts[a].budget)) ∧
         exec (.setAccount first count rows) s = .next (named.foldl State.reevaluate t)) ∧
       ((∀ i : Slot, (s.job i).holdReason ≠ some .budget) → exec (.setAccount first count rows) s = .next t)) ∧
  (∀ (s : State) (a : AccountId) (i : Slot),
     let t := s.reevaluate a
     let held := (s.job i).state = .held ∧ (s.job i).holdReason = some .budget ∧ (s.job i).account = a
     let passes := ∃ m, (s.job i).markAt (s.job i).restartPos = some m ∧
       s.meter.passes a (s.meter.charge a m) = true
     t.meter = s.meter ∧ t.link = s.link ∧ t.alerts = s.alerts ∧
     t.store.dram = s.store.dram ∧ (∃ more, t.store.free = s.store.free ++ more) ∧
     ((∀ k : Slot, (s.job k).state = .ready ∨ (s.job k).state = .held → (s.job k).prologueEnd ≠ some 0) →
       t.store = s.store ∧ t.intake = s.intake) ∧
     (held → passes → (t.job i).state ∈ [JobState.ready, .printing] ∧ (t.job i).holdReason = none ∧
       (t.job i).readySince = s.time) ∧
     (held → ¬passes → t.job i = s.job i) ∧
     (¬held → (s.job i).state ≠ .ready → t.job i = s.job i))

/-- R151, R154, R162: a SET of the ZONE table stores the five settings of each named row (a period of 0 as 1) and
keeps the display class, the count and the running period. A changed escalation setting acts at once: 0 ends
escalation, and one that an URGENT zone's count has reached escalates it. -/
def Obligations.SetZoneStoresItsRows : Prop :=
  ∀ (s : State) (first count : Byte) (rows : List ZoneWrite), s.Admits → StoresRows .zone first count rows.length →
    ∃ t : State, exec (.setZone first count rows) s = .next t ∧
      { t with alerts := { t.alerts with zones := s.alerts.zones } } = s ∧
      (∀ (k : Nat) (w : ZoneWrite) (z : ZoneId), k < runLength 4 count → rows[k]? = some w →
        z.val = runRow 4 first.toNat k →
        let e := w.escalation.toNat
        t.zone z =
          { urgentOn := w.urgentOn.toNat, urgentPeriod := max 1 w.urgentPeriod.toNat, noticeOn := w.noticeOn.toNat,
            noticePeriod := max 1 w.noticePeriod.toNat, escalation := e, display := (s.zone z).display,
            count := (s.zone z).count, generator := (s.zone z).generator,
            escalated :=
              if (s.zone z).escalation = e then (s.zone z).escalated
              else if e = 0 then false
              else (s.zone z).escalated || decide ((s.zone z).display = .urgent ∧ e ≤ (s.zone z).count) }) ∧
      ∀ z : ZoneId, (∀ k, k < runLength 4 count → z.val ≠ runRow 4 first.toNat k) → t.zone z = s.zone z

/-- R162: the refusals of a SET, in order: BAD TABLE, BAD INDEX, READ ONLY. Each names the table and the first row as
received and changes nothing else. -/
def Obligations.SetIsCheckedInOrder : Prop :=
  ∀ (s : State) (first count : Byte), s.Admits →
    let refused (c : Instr) (code : RefusalCode) (table : Byte) := exec c s = .next
      { s with link := { s.link with
        responses := s.link.responses ++ [.refuse 0x10 code (.tableRow table first)] } }
    (∀ table, refused (.setOther (.unknown table) first count) .badTable table) ∧
    (count.toNat * 30 ≤ 4093 → refused (.setOther .laneState first count)
      (if first.toNat < 16 ∧ count ≠ 0 then .readOnly else .badIndex) 4) ∧
    (count.toNat * 26 ≤ 4093 → refused (.setOther .laneCounters first count)
      (if first.toNat < 16 ∧ count ≠ 0 then .readOnly else .badIndex) 5) ∧
    (count.toNat * 50 ≤ 4093 → refused (.setOther .job first count)
      (if count ≠ 0 then .readOnly else .badIndex) 8) ∧
    (count.toNat * 16 ≤ 4093 → refused (.setOther .alert first count)
      (if first.toNat < 48 ∧ count ≠ 0 then .readOnly else .badIndex) 9) ∧
    (∀ (t : Table) (c : Instr), c.wellFormed = true → ¬NamesRun t.rows first count →
      ((∃ rows, t = .system ∧ c = .setSystem first count rows) ∨ (∃ rows, t = .cls ∧ c = .setClass first count rows) ∨
        (∃ rows, t = .pool ∧ c = .setPool first count rows) ∨
        (∃ rows, t = .laneConfig ∧ c = .setLaneConfig first count rows) ∨
        (∃ rows, t = .tariff ∧ c = .setTariff first count rows) ∨
        (∃ rows, t = .account ∧ c = .setAccount first count rows) ∨
        (∃ rows, t = .zone ∧ c = .setZone first count rows)) →
      refused c .badIndex t.code)

/-- R160, R161: a GET is checked in order (BAD TABLE, BAD INDEX, BUSY); one that passes places at the tail of the
reply queue a REPLY for the run of rows from the first row in its page. Nothing else changes. R131, R132: a METER READ
is checked in order (BAD INDEX, BUSY while a METER READ REPLY is queued, BUSY while the reply queue is full); one that
passes places its REPLY and begins a hold of its 1 to 16 accounts with an empty held-charge list. -/
def Obligations.GetAndMeterRead : Prop :=
  (∀ (s : State) (table first count : Byte), s.Admits →
     let refused (code : RefusalCode) := exec (.get table first count) s = .next
       { s with link := { s.link with
         responses := s.link.responses ++ [.refuse 0x11 code (.tableRow table first)] } }
     (11 ≤ table.toNat → refused .badTable) ∧
     ∀ t : Table, t.code = table →
       (¬NamesRun t.rows first count → refused .badIndex) ∧
       (NamesRun t.rows first count → 4 ≤ s.link.replies.length → refused .busy) ∧
       (NamesRun t.rows first count → s.link.replies.length < 4 → ∃ run : List Nat,
         run.length = runLength t.rows count ∧ run.Nodup ∧
         (∀ k, k < run.length → run[k]? = some (runRow t.rows first.toNat k)) ∧
         (∀ r ∈ run, r < t.rows) ∧
         exec (.get table first count) s = .next
           { s with link := { s.link with replies := s.link.replies ++ [.rows t first run] } })) ∧
  (∀ (s : State) (first count : Byte) (zero : Bool), s.Admits →
     let refused (code : RefusalCode) := exec (.meterRead first count zero) s = .next
       { s with link := { s.link with responses := s.link.responses ++ [.refuse 0x12 code (.account first)] } }
     let busy := (∃ f r z, Reply.meters f r z ∈ s.link.replies) ∨ 4 ≤ s.link.replies.length
     (¬NamesRun 128 first count → refused .badIndex) ∧ (NamesRun 128 first count → busy → refused .busy) ∧
     (NamesRun 128 first count → ¬busy → ∃ range : List AccountId,
       range.length = runLength 128 count ∧ range.Nodup ∧
       (∀ k, k < range.length → (range[k]?).map Fin.val = some (runRow 128 first.toNat k)) ∧
       exec (.meterRead first count zero) s = .next
         { s with
           meter := { s.meter with hold := some range, held := [] },
           link := { s.link with replies := s.link.replies ++ [.meters first range zero] } }))

/-! ### Charges and meters -/

/-- R115: the charge of a sheet, floor((W × F × A + 64) / 128), with W the weight of its colour and F 16 or the duplex
factor, from the row of its media and its account's factor; it lies between 0 and 261,056. R115: the ranges of the
weight, the sides factor and their product with the account's factor. R128: the budget check passes when there is no
budget, or when the exact sum of metered, held, reserved and the charge is at most the budget times 256. -/
def Obligations.SheetChargesAndTheBudgetCheck : Prop :=
  (∀ (s : State) (a : AccountId) (m : Mark),
     let row := s.meter.tariff[m.media]
     let w := match m.colour with | .mono => row.w0 | .accent => row.w1 | .full => row.w2
     let f := match m.sides with | .one => 16 | .two => row.duplex
     s.meter.charge a m = (w * f * s.meter.accounts[a].factor + 64) / 128 ∧
       (s.MeterLaw → s.meter.charge a m ≤ 261056)) ∧
  (∀ (s : State) (a : AccountId) (m : Mark), s.MeterLaw →
     let row := s.meter.tariff[m.media]
     let w := match m.colour with | .mono => row.w0 | .accent => row.w1 | .full => row.w2
     let f := match m.sides with | .one => 16 | .two => row.duplex
     w ≤ 4095 ∧ 16 ≤ f ∧ f ≤ 32 ∧ w * f * s.meter.accounts[a].factor ≤ 33415200) ∧
  (∀ (u : MeterUnit) (a : AccountId) (c : Nat),
     (u.accounts[a].budget = none → u.passes a c = true) ∧
     ∀ b, u.accounts[a].budget = some b →
       ((∀ e ∈ u.held, e.account ≠ a) →
         (u.passes a c = true ↔ u.bank.meters[a].total + u.reserved[a] + c ≤ b * 256)) ∧
       ∀ (before after : List HeldEntry) (e : HeldEntry), u.held = before ++ e :: after →
         (∀ x ∈ before, x.account ≠ a) → e.account = a →
         (u.passes a c = true ↔ u.bank.meters[a].total + e.charge + u.reserved[a] + c ≤ b * 256))

/-- R120, R126, R132, R134: the delivery of a charge. It leaves the reserved total; it goes to the held entry of an
account in the hold range, to a new entry while there are fewer than 8, or, on a hold overflow, every held entry is
applied, the hold ends and the charge goes to the meters; outside the range it goes to the meters. The lane's
delivered count rises. R120, R123, R132: the held entries applied. Each entry's charge and sheets reach its account's
metered total and delivered sheets, a clipped charge sets SATURATED, the list empties, and nothing else changes; each
account has at most one entry, which is an invariant. -/
def Obligations.DeliveryOfACharge : Prop :=
  (∀ (u : MeterUnit) (l : LaneId) (a : AccountId) (c : Nat),
     let v := u.deliver l a c
     let inRange := ∃ range, u.hold = some range ∧ a ∈ range
     let entry := ∃ e ∈ u.held, e.account = a
     let m := u.bank.meters[a]
     v.reserved[a] = u.reserved[a] - c ∧ (∀ b : AccountId, b ≠ a → v.reserved[b] = u.reserved[b]) ∧
     v.bank.counters[l] = { u.bank.counters[l] with delivered := min (u.bank.counters[l].delivered + 1) 4294967295 } ∧
     (∀ k : LaneId, k ≠ l → v.bank.counters[k] = u.bank.counters[k]) ∧
     v.tariff = u.tariff ∧ v.accounts = u.accounts ∧ v.bank.retentionLost = u.bank.retentionLost ∧
     (¬inRange → v.held = u.held ∧ v.hold = u.hold ∧
       v.bank.meters[a] = { total := min (m.total + c) 281474976710655, sheets := min (m.sheets + 1) 4294967295,
                            saturated := m.saturated || decide (281474976710655 < m.total + c) } ∧
       ∀ b : AccountId, b ≠ a → v.bank.meters[b] = u.bank.meters[b]) ∧
     (inRange → ¬entry → u.held.length < 8 →
       v.held = u.held ++ [{ account := a, charge := c, sheets := 1 }] ∧ v.hold = u.hold ∧
       v.bank.meters = u.bank.meters) ∧
     (inRange → ¬entry → 8 ≤ u.held.length → v.held = [] ∧ v.hold = none ∧
       v.bank.meters = ((u.applyHeld).addMetered a c 1).bank.meters) ∧
     ∀ (before after : List HeldEntry) (e : HeldEntry), inRange → u.held = before ++ e :: after → e.account = a →
       (∀ x ∈ before ++ after, x.account ≠ a) →
       v.hold = u.hold ∧
       v.held = before ++ { account := a, charge := min (e.charge + c) 281474976710655,
                            sheets := min (e.sheets + 1) 4294967295 } :: after ∧
       v.bank.meters[a] = { m with saturated := m.saturated || decide (281474976710655 < e.charge + c) } ∧
       ∀ b : AccountId, b ≠ a → v.bank.meters[b] = u.bank.meters[b]) ∧
  (∀ (u : MeterUnit) (a : AccountId) (c n : Nat), u.addMetered a c n = u.setMeter a
     { total := min (u.bank.meters[a].total + c) 281474976710655, sheets := min (u.bank.meters[a].sheets + n) 4294967295,
       saturated := u.bank.meters[a].saturated || decide (281474976710655 < u.bank.meters[a].total + c) }) ∧
  (∀ u : MeterUnit, u.held.Pairwise (fun d e => d.account ≠ e.account) →
     let v := u.applyHeld
     { v with held := u.held, bank := { v.bank with meters := u.bank.meters } } = u ∧ v.held = [] ∧
     (∀ e ∈ u.held,
       let m := u.bank.meters[e.account]
       v.bank.meters[e.account] =
         { total := min (m.total + e.charge) 281474976710655, sheets := min (m.sheets + e.sheets) 4294967295,
           saturated := m.saturated || decide (281474976710655 < m.total + e.charge) }) ∧
     ∀ a : AccountId, (∀ e ∈ u.held, e.account ≠ a) → v.bank.meters[a] = u.bank.meters[a])

/-! ### Alerts and zones -/

/-- R142, R143, R144, R152: the raising of an alert: coalesced into the entry of its key, created, or settled against
the tail of a full queue, which it displaces where it is of a higher class. R138, R141: its zone is that of the lane
it is about, and the office zone for an account or the system. The display classes follow, a zone whose class changes
restarts its generator at once with its new class's values (R153, R154), every other zone keeps its record, and
nothing but the ALERT UNIT changes. -/
def Obligations.RaisingAnAlert : Prop :=
  ∀ (s t : State) (src : AlertSource) (zone : ZoneId) (kind : AlertKind), s.AlertLaw → s.ZoneLaw →
    ((∃ l : LaneId, src = .lane l ∧ zone = (s.lane l).zone ∧ t = s.raiseLane l kind) ∨
      (∃ a : AccountId, src = .account a ∧ zone = s.alerts.office ∧ t = s.raiseAccount a kind) ∨
      src = .system ∧ zone = s.alerts.office ∧ t = s.raiseSystem kind) →
    let key (e : AlertEntry) := e.source = src ∧ e.kind = kind
    let fresh : AlertEntry :=
      { source := src, kind := kind, zone := zone, first := s.time, last := s.time, occurrences := 1,
        sent := false, inFlight := false, raisedInFlight := false }
    { t with alerts := s.alerts } = s ∧ t.ZoneLaw ∧ s.ZonesFollow t ∧ t.alerts.office = s.alerts.office ∧
    (∀ (before after : List AlertEntry) (e : AlertEntry), s.alerts.queue = before ++ e :: after → key e →
      t.alerts.queue = before ++
        { e with occurrences := min (e.occurrences + 1) 255, last := s.time, sent := false,
                 raisedInFlight := e.raisedInFlight || e.inFlight } :: after ∧ t.alerts.overflow = s.alerts.overflow) ∧
    ((∀ e ∈ s.alerts.queue, ¬key e) → s.alerts.queue.length < 48 →
      ∃ before after, s.alerts.queue = before ++ after ∧ t.alerts.queue = before ++ fresh :: after ∧
        (∀ e ∈ before, e.cls.rank ≤ kind.cls.rank) ∧ (∀ e ∈ after, kind.cls.rank < e.cls.rank) ∧
        t.alerts.overflow = s.alerts.overflow) ∧
    (∀ (init : List AlertEntry) (tail : AlertEntry), (∀ e ∈ s.alerts.queue, ¬key e) →
      s.alerts.queue = init ++ [tail] → 48 ≤ s.alerts.queue.length →
      t.alerts.overflow = true ∧
      (tail.cls.rank ≤ kind.cls.rank → t.alerts.queue = s.alerts.queue) ∧
      (kind.cls.rank < tail.cls.rank → ∃ before after, init = before ++ after ∧
        t.alerts.queue = before ++ fresh :: after ∧
        (∀ e ∈ before, e.cls.rank ≤ kind.cls.rank) ∧ (∀ e ∈ after, kind.cls.rank < e.cls.rank)))

/-- R148: an ACK ALERT removes the entry of its key whatever its state, and its zone's display class follows; with no
such entry, or a source or kind that names none, it is refused with STALE. R149: an ACK ZONE removes every SENT entry
of class URGENT or NOTICE of its zone and nothing else of the queue, and the zone's display class follows; a zone
above 3 is refused with BAD INDEX. R148, R157: an ACK ALERT that finds the response queue full is discarded untaken;
only RESPONSE OVERFLOW is set. A zone whose class changes restarts its generator at once with its new class's values,
and every other zone keeps its record (R152, R153). -/
def Obligations.Acknowledgements : Prop :=
  (∀ (s : State) (sourceType number kind : Byte), s.Admits →
     let refused := exec (.ackAlert sourceType number kind) s = .next
       { s with link := { s.link with
         responses := s.link.responses ++ [.refuse 0x20 .stale (.alertKey sourceType number kind)] } }
     (2 < sourceType.toNat ∨ sourceType = 0 ∧ 16 ≤ number.toNat ∨ sourceType = 1 ∧ 128 ≤ number.toNat ∨
       sourceType = 2 ∧ number ≠ 0 ∨ 13 ≤ kind.toNat → refused) ∧
     ∀ (src : AlertSource) (k : AlertKind), src.bytes = [sourceType, number] → k.code = kind →
       ((∀ e ∈ s.alerts.queue, ¬(e.source = src ∧ e.kind = k)) → refused) ∧
       ((∃ e ∈ s.alerts.queue, e.source = src ∧ e.kind = k) → ∃ t : State,
         exec (.ackAlert sourceType number kind) s = .next t ∧ { t with alerts := s.alerts } = s ∧
         t.alerts.queue = s.alerts.queue.filter (fun e => decide (¬(e.source = src ∧ e.kind = k))) ∧
         t.alerts.overflow = s.alerts.overflow ∧ t.alerts.office = s.alerts.office ∧
         (s.ZoneLaw → t.ZoneLaw ∧ s.ZonesFollow t))) ∧
  (∀ (s : State) (zone : Byte), s.Admits →
     (4 ≤ zone.toNat → exec (.ackZone zone) s = .next
       { s with link := { s.link with responses := s.link.responses ++ [.refuse 0x21 .badIndex (.zone zone)] } }) ∧
     (zone.toNat < 4 → ∃ t : State, exec (.ackZone zone) s = .next t ∧ { t with alerts := s.alerts } = s ∧
       t.alerts.queue = s.alerts.queue.filter
         (fun e => decide (¬(e.zone.val = zone.toNat ∧ e.cls ≠ .info ∧ e.sent = true))) ∧
       t.alerts.overflow = s.alerts.overflow ∧ t.alerts.office = s.alerts.office ∧
       (s.ZoneLaw → t.ZoneLaw ∧ s.ZonesFollow t))) ∧
  (∀ (s : State) (sourceType number kind : Byte), s.Receives → 16 ≤ s.link.responses.length →
     exec (.ackAlert sourceType number kind) s = .next { s with link := { s.link with overflow := true } })

/-- R153: at the end of a period the generator's next period starts at once with the row's values as they stand, and a
whole URGENT period is counted and the escalation check made (R154; log entry 9 for the command that stands for the
check alone). A period ended late begins its next one at the time of the command and counts one period (log entry 7,
DEDUCED). When the on ticks have passed the output goes low. Before those moments the two commands have no effect (log
entry 5, DESIGN CHOICE). Only the zone's generator, count and escalation change. R154: a zone becomes escalated when
it is URGENT, its setting is 1 to 255 and its count has reached it; its beacon and escalate outputs are then high. In
any other case the check changes nothing. R2: a tick raises press-room time by one millisecond, wrapping, and changes
nothing else. -/
def Obligations.BeaconsEscalationAndTime : Prop :=
  (∀ (s : State) (z : ZoneId) (g : BeaconPeriod), s.Running → s.ZoneLaw → (s.zone z).generator = some g →
     let urgent := (s.zone z).display = .urgent
     let on := if urgent then (s.zone z).urgentOn else (s.zone z).noticeOn
     let period := if urgent then (s.zone z).urgentPeriod else (s.zone z).noticePeriod
     let count := if urgent then min ((s.zone z).count + 1) 255 else (s.zone z).count
     let put (x : Zone) : State := { s with alerts := { s.alerts with zones := s.alerts.zones.set z.val x z.isLt } }
     (10 * g.period ≤ since s.time g.start → exec (.beaconPeriodEnd z) s = .next (put
       { s.zone z with
         generator := some { start := s.time, on := on, period := period, high := decide (0 < on) },
         count := count,
         escalated := (s.zone z).escalated ||
           decide (urgent ∧ 1 ≤ (s.zone z).escalation ∧ (s.zone z).escalation ≤ count) })) ∧
     (since s.time g.start < 10 * g.period → exec (.beaconPeriodEnd z) s = .next s) ∧
     (g.on < g.period → 10 * g.on ≤ since s.time g.start → exec (.beaconOnEnd z) s =
       .next (put { s.zone z with generator := some { g with high := false } })) ∧
     (g.period ≤ g.on ∨ since s.time g.start < 10 * g.on → exec (.beaconOnEnd z) s = .next s)) ∧
  (∀ (s : State) (z : ZoneId), s.Running →
     let reached := (s.zone z).display = .urgent ∧ 1 ≤ (s.zone z).escalation ∧ (s.zone z).escalation ≤ (s.zone z).count
     (reached → ∃ t : State, exec (.zoneEscalate z) s = .next t ∧ t.beaconPin z = true ∧ t.escalatePin z = true ∧
       t = { s with alerts := { s.alerts with
         zones := s.alerts.zones.set z.val { s.zone z with escalated := true } z.isLt } }) ∧
     (¬reached → exec (.zoneEscalate z) s = .next s)) ∧
  (∀ s : State, s.Running → exec .timeTick s = .next { s with time := s.time + 1 })

/-! ### LANE CONTROL -/

/-- R86, R157: a LANE CONTROL of any of the six actions whose lane is above 15 is refused with BAD INDEX; one of no
known action is refused with UNKNOWN KIND, or with BAD INDEX when its lane is above 15 too; a frame of no known kind
is refused with UNKNOWN KIND and its kind as received (two forms of one row, and the order of the two checks, log
entry 33; a part-to-server code that arrives at the part is of no known kind, log entry 48, DEDUCED). R84, R85: the
pending command slot. COMMAND fills an empty slot, and is refused in OFFLINE and DOWN (WRONG STATE) and on a full slot
(BUSY); CANCEL COMMAND empties a full slot and is refused on an empty one (TOO LATE); the transmitter takes the
command and the slot empties, and a COMMAND SEND with the slot empty has no effect (log entry 5, DESIGN CHOICE).
Nothing else of the lane or the part changes. -/
def Obligations.LaneControlChecksAndTheCommandSlot : Prop :=
  (∀ (s : State) (lane action code kind : Byte), s.Admits →
     let refused (c : Instr) (k : Byte) (why : RefusalCode) (item : RefuseItem) := exec c s = .next
       { s with link := { s.link with responses := s.link.responses ++ [.refuse k why item] } }
     (16 ≤ lane.toNat →
       refused (.enable lane) 0x30 .badIndex (.laneAction lane 0) ∧
       refused (.disable lane) 0x30 .badIndex (.laneAction lane 1) ∧
       refused (.init lane) 0x30 .badIndex (.laneAction lane 2) ∧
       refused (.resume lane) 0x30 .badIndex (.laneAction lane 3) ∧
       refused (.command lane code) 0x30 .badIndex (.laneAction lane 4) ∧
       refused (.cancelCommand lane) 0x30 .badIndex (.laneAction lane 5) ∧
       refused (.unknownKind (.laneAction lane action)) 0x30 .badIndex (.laneAction lane action)) ∧
     (lane.toNat < 16 →
       refused (.unknownKind (.laneAction lane action)) 0x30 .unknownKind (.laneAction lane action)) ∧
     refused (.unknownKind (.frame kind)) kind .unknownKind .nothing) ∧
  (∀ (s : State) (l : LaneId) (code : Byte),
     let lane : Byte := BitVec.ofNat 8 l.val
     let put (x : Lane) : State := { s with lanes := s.lanes.set l.val x l.isLt }
     let refused (c : Instr) (why : RefusalCode) (action : Byte) := exec c s = .next
       { s with link := { s.link with responses := s.link.responses ++ [.refuse 0x30 why (.laneAction lane action)] } }
     let down := (s.lane l).state = .offline ∨ (s.lane l).state = .down
     (s.Admits →
       (down → refused (.command lane code) .wrongState 4) ∧
       (¬down → (s.lane l).command = none →
         exec (.command lane code) s = .next (put { s.lane l with command := some code })) ∧
       (¬down → (s.lane l).command ≠ none → refused (.command lane code) .busy 4) ∧
       ((s.lane l).command ≠ none →
         exec (.cancelCommand lane) s = .next (put { s.lane l with command := none })) ∧
       ((s.lane l).command = none → refused (.cancelCommand lane) .tooLate 5)) ∧
     (s.Running →
       ((s.lane l).command = some code → exec (.commandSend l) s = .next
         (put { s.lane l with command := none, lastToken := some (.command code) })) ∧
       ((s.lane l).command = none → exec (.commandSend l) s = .next s)))

/-- R86: ENABLE. On an OFFLINE lane that is not enabled, enabled becomes yes and the lane enters DOWN with printer
credits 0, its mirror and capture cleared, no miss and no pending command, and its poll timer started at 1,000 ms; on
any other lane that is not enabled only the field changes; an enabled lane refuses with WRONG STATE. R53, R54, R87:
DISABLE. A lane that is not enabled refuses with WRONG STATE. A lane without a job is OFFLINE at once, with polling
and timers stopped, credits 0, no pending command and its effective pool in line, and the passes this opens run; a
lane with a job has its job's stop request set to REQUEUE, or settled (R6), and meets it. -/
def Obligations.EnableAndDisable : Prop :=
  (∀ (s : State) (l : LaneId), s.Admits →
     let lane : Byte := BitVec.ofNat 8 l.val
     let x := s.lane l
     let put (y : Lane) : State := { s with lanes := s.lanes.set l.val y l.isLt }
     (x.enabled = true → exec (.enable lane) s = .next
       { s with link := { s.link with
         responses := s.link.responses ++ [.refuse 0x30 .wrongState (.laneAction lane 0)] } }) ∧
     (x.enabled = false → x.state ≠ .offline → exec (.enable lane) s = .next (put { x with enabled := true })) ∧
     (x.enabled = false → x.state = .offline → exec (.enable lane) s = .next (put
       { x with
         enabled := true, state := .down, pollTimer := some { start := s.time, length := 1000 }, credits := 0,
         command := none, misses := 0, pollOut := false, stallTimer := none, recoveryTimer := none, stallCaused := false,
         mirror := 0, lastSheet := none, capture := none }))) ∧
  (∀ (s : State) (l : LaneId), s.Admits →
     let lane : Byte := BitVec.ofNat 8 l.val
     let x := s.lane l
     let put (y : Lane) : State := { s with lanes := s.lanes.set l.val y l.isLt }
     (x.enabled = false → exec (.disable lane) s = .next
       { s with link := { s.link with
         responses := s.link.responses ++ [.refuse 0x30 .wrongState (.laneAction lane 1)] } }) ∧
     (x.enabled = true → x.job = none → x.state ≠ .offline → exec (.disable lane) s = .next (put
       { x with
         enabled := false, state := .offline, effPool := x.pool, pollTimer := none, credits := 0, command := none,
         misses := 0, pollOut := false, pollDue := false, stallTimer := none, recoveryTimer := none,
         stallCaused := false }).dispatch) ∧
     ∀ h : Handle, x.enabled = true → x.job = some h → (s.job h.slot).lane = some l →
       exec (.disable lane) s = .next
         (((put { x with enabled := false }).setJob h.slot
           { s.job h.slot with stop := some ((s.job h.slot).stop.getD .requeue) }).meetStop l h.slot))

/-- R88, R91, R97, R112: INIT and LANE LOSS on lane `l`, the loss at the third missed poll (R96), whether it is the
POLL's own, the command for the POLL, or that for a count that stands at 3 (log entry 8). The lane is DOWN with its
poll timer at 1,000 ms, or OFFLINE when it is not enabled; it carries no job, its credits, misses, pending command,
waiting tokens, mirror, capture and timers are gone, and its effective pool is its configured pool. The job it carried
is no longer on it: READY with SPLIT set when it carried no request or a REQUEUE, HELD BUDGET for HOLD, ended for
CANCEL and FAIL. R97 step 1, R99, R127: every entry in flight is spoiled: its charge leaves its account's reserved
total, the lane's spoiled sheets and spoiled charge rise, the job's sheets in flight fall and its spoiled sheets rise,
and the job is rewound to the oldest. Lane loss raises a LANE DOWN alert of the lane, after a BUDGET HOLD of the
account for a HOLD request. INIT raises none, for HOLD too (R155 against R97, log entry 42, DESIGN CHOICE), and clears
the delta flags. -/
def Obligations.LosingAndInitialisingALane : Prop :=
  ∀ (s : State) (l : LaneId) (c : Instr),
    let x := s.lane l
    let lost := x.misses = 3 ∧ c = .laneLoss l ∨ x.pollDue = true ∧ x.command = none ∧ x.pollOut = true ∧
      2 ≤ x.misses ∧ (c = .laneLoss l ∨ c = .pollSend l)
    (c = .init (BitVec.ofNat 8 l.val) ∧ s.Admits ∨ s.Running ∧ x.state ≠ .down ∧ x.state ≠ .offline ∧ lost) →
    ∃ t : State, exec c s = .next t ∧
      (t.lane l).state = (if x.enabled then .down else .offline) ∧
      (x.enabled = true → (t.lane l).pollTimer = some { start := s.time, length := 1000 } ∧ (t.lane l).mirror = 0) ∧
      (t.lane l).enabled = x.enabled ∧ (t.lane l).job = none ∧ (t.lane l).sendPos = 0 ∧
      (t.lane l).prologueDue = false ∧ (t.lane l).inSheet = false ∧ (t.lane l).resume = none ∧
      (t.lane l).credits = 0 ∧ (t.lane l).command = none ∧ (t.lane l).misses = 0 ∧ (t.lane l).pollOut = false ∧
      (t.lane l).stream = [] ∧ (t.lane l).capture = none ∧ (t.lane l).lastSheet = none ∧
      (t.lane l).stallTimer = none ∧ (t.lane l).recoveryTimer = none ∧ (t.lane l).stallCaused = false ∧
      (t.lane l).pool = x.pool ∧ (t.lane l).effPool = x.pool ∧
      (∀ h : Handle, x.job = some h → (t.lane l).inFlight = [] ∧ (t.job h.slot).lane ≠ some l ∧
        ((s.job h.slot).stop = none ∨ (s.job h.slot).stop = some .requeue →
          (t.job h.slot).state ∈ [JobState.ready, .printing] ∧ (t.job h.slot).split = true ∧
          (t.job h.slot).stop = none ∧ (t.job h.slot).readySince = s.time) ∧
        ((s.job h.slot).stop = some .hold →
          (t.job h.slot).state = .held ∧ (t.job h.slot).holdReason = some .budget) ∧
        ((s.job h.slot).stop = some .cancel →
          (t.job h.slot).state = .done ∧ (t.job h.slot).outcome = some .cancelled) ∧
        (∀ why, (s.job h.slot).stop = some (.fail why) →
          (t.job h.slot).state = .done ∧ (t.job h.slot).outcome = some (.failed why)) ∧
        (t.job h.slot).delivered = (s.job h.slot).delivered ∧ (t.job h.slot).charge = (s.job h.slot).charge ∧
        (x.inFlight = [] → (t.job h.slot).nextUnsent = (s.job h.slot).nextUnsent ∧
          (t.job h.slot).restart = (s.job h.slot).restart) ∧
        ((∀ e ∈ x.inFlight, e.job = h) → s.MeterRanges → (s.job h.slot).spoiled ≤ 4294967295 →
          (t.job h.slot).inFlight = (s.job h.slot).inFlight - x.inFlight.length ∧
          (t.job h.slot).spoiled = min ((s.job h.slot).spoiled + x.inFlight.length) 4294967295 ∧
          (∀ e rest, x.inFlight = e :: rest →
            (t.job h.slot).nextUnsent = e.sheet ∧ (t.job h.slot).restart = .fixed e.markPos) ∧
          (∀ a : AccountId, t.meter.reserved[a] = s.meter.reserved[a] - x.chargeFor a) ∧
          t.meter.bank.counters[l] = { s.meter.bank.counters[l] with
            spoiled := min (s.meter.bank.counters[l].spoiled + x.inFlight.length) 4294967295,
            spoiledCharge := min (s.meter.bank.counters[l].spoiledCharge + (x.inFlight.map InFlight.charge).sum)
              281474976710655 })) ∧
      (x.job = none → t.meter = s.meter) ∧
      (c = .init (BitVec.ofNat 8 l.val) → (t.lane l).mirror = 0 ∧ (t.lane l).delta = 0 ∧ t.alerts = s.alerts) ∧
      (c ≠ .init (BitVec.ofNat 8 l.val) → (t.lane l).delta = x.delta ∧
        (∀ h : Handle, x.job = some h → (s.job h.slot).stop = some .hold →
          t.alerts = ((s.raiseAccount (s.job h.slot).account .budgetHold).raiseLane l .laneDown).alerts) ∧
        ((∀ h : Handle, x.job = some h → (s.job h.slot).stop ≠ some .hold) →
          t.alerts = (s.raiseLane l .laneDown).alerts)) ∧
      t.store.dram = s.store.dram ∧ t.link = s.link ∧ t.meter.bank.meters = s.meter.bank.meters ∧
      (∀ k : LaneId, k ≠ l → t.meter.bank.counters[k] = s.meter.bank.counters[k]) ∧ t.meter.held = s.meter.held ∧
      t.meter.hold = s.meter.hold ∧ t.time = s.time

/-- R89, R103, R104, R105: RESUME on a lane that is JAMMED with stall-caused yes. Stall-caused becomes no. With COVER
OPEN and PANEL OFFLINE both 0, recovery starts: a lane without a job is IDLE and the passes run; a lane with a job is
RECOVERING with its recovery delay, or restarts at once when the delay is 0. Otherwise the lane stays JAMMED. On any
other lane RESUME is refused with WRONG STATE. R104: the recovery timer expires and the lane restarts its job. Before
the expiry, and in any other state, the command has no effect (log entry 5, DESIGN CHOICE). R74, R104: the restart:
JOB BEGIN with the resume flag, the prologue from position 0, or, when it is empty, the restart point, with the chain
checked for the move (R37, log entry 25); the lane is SENDING, or PAUSED when the printer is not ready. -/
def Obligations.RecoveryOfALane : Prop :=
  (∀ (s : State) (l : LaneId), s.Admits →
     let lane : Byte := BitVec.ofNat 8 l.val
     let x := s.lane l
     let put (y : Lane) : State := { s with lanes := s.lanes.set l.val y l.isLt }
     let open_ := x.mirror.getLsbD 4 || x.mirror.getLsbD 6
     let recovering : Lane :=
       { x with state := .recovering, stallCaused := false, stallTimer := none,
                recoveryTimer := some { start := s.time, length := x.recoveryDelay * 100 } }
     (¬(x.state = .jammed ∧ x.stallCaused = true) → exec (.resume lane) s = .next
       { s with link := { s.link with
         responses := s.link.responses ++ [.refuse 0x30 .wrongState (.laneAction lane 3)] } }) ∧
     (x.state = .jammed → x.stallCaused = true → open_ = true →
       exec (.resume lane) s = .next (put { x with stallCaused := false })) ∧
     (x.state = .jammed → x.stallCaused = true → open_ = false → x.job = none →
       exec (.resume lane) s = .next (put
         { x with state := .idle, stallCaused := false, pollTimer := some { start := s.time, length := 500 },
                  stallTimer := none, recoveryTimer := none, lastSheet := none, capture := none }).dispatch) ∧
     ∀ h : Handle, x.state = .jammed → x.stallCaused = true → open_ = false → x.job = some h →
       (x.recoveryDelay ≠ 0 → exec (.resume lane) s = .next (put recovering)) ∧
       (x.recoveryDelay = 0 → exec (.resume lane) s = .next ((put recovering).restart l h.slot))) ∧
  (∀ (s : State) (l : LaneId) (h : Handle) (timer : Timer), s.Running → (s.lane l).job = some h →
     (s.lane l).recoveryTimer = some timer →
     (¬((s.lane l).state = .recovering ∧ timer.length ≤ since s.time timer.start) →
       exec (.recoveryTimerExpiry l) s = .next s) ∧
     ((s.lane l).state = .recovering → timer.length ≤ since s.time timer.start →
       exec (.recoveryTimerExpiry l) s = .next (s.restart l h.slot))) ∧
  (∀ (s : State) (l : LaneId) (i : Slot), (s.lane l).state = .recovering →
     let x := s.lane l
     let j := s.job i
     ∃ y : Lane,
       let u : State := { s with lanes := s.lanes.set l.val y l.isLt }
       s.restart l i = u.releaseMoved l i 0 ∧ (j.prologueEnd ≠ some 0 → s.restart l i = u) ∧
       y.stream = x.stream ++ [.jobBegin j.tag (decide (0 < j.delivered) || j.split)] ∧ y.job = x.job ∧
       y.inSheet = false ∧ y.roomWait = false ∧ y.recoveryTimer = none ∧ y.credits = x.credits ∧
       y.inFlight = x.inFlight ∧ y.mirror = x.mirror ∧ y.command = x.command ∧
       y.pollTimer = some { start := s.time, length := 50 } ∧
       (j.prologueEnd ≠ some 0 → y.sendPos = 0 ∧ y.prologueDue = true) ∧
       (j.prologueEnd = some 0 → y.sendPos = j.restartPos ∧ y.prologueDue = false) ∧
       (notReady x.mirror = false → y.state = .sending ∧ y.resume = none) ∧
       (notReady x.mirror = true → y.state = .paused ∧ y.resume = some .sending))

/-! ### Resets and supplies -/

/-- R23, R25, R26, R40, R43, R64, R91, R139, R155, R168: a RESET frame. Every block is as after reset: 64 credits
granted when the line is in sync and the store is of one of the four sizes, every block free in order, every slot FREE
with generation 0, tables and lanes at their defaults, no alert, time 0. The meter bank is kept, with the held entries
of an abandoned hold applied. The block count, the straps, the line and the supply state stay; the stored bytes stay
too (log entry 10). R25, R136 to R139, R155: a power-on reset, by the main supply rising in HALTED or by the reset pin
in RUNNING (which abandons a hold first). The block count is reloaded from the straps, the link state is the line's,
the bank is kept when it is valid; otherwise it is zeroed, RETENTION LOST is set and its INFO alert is queued. The
bank is valid afterwards. The stored bytes have no value afterwards (log entry 10, DESIGN CHOICE). R136, R137: a
supply drop in RUNNING halts the part, with a hold in progress abandoned first and the frame in flight cut off (log
entry 28); the backup supply's loss in HALTED makes the bank not valid; in the other supply state neither event, nor a
rise or the reset pin in theirs, has an effect (log entry 29 for the backup supply). -/
def Obligations.ResetsAndSupplies : Prop :=
  (∀ s : State, s.Receives → s.link.lineInSync = true → s.store.blockCount ∈ [8192, 16384, 32768, 65536] →
     let n := s.store.blockCount
     exec .reset s = .next
       { pending := s.pending, time := 0, supply := s.supply, straps := s.straps,
         link := { lineInSync := true, up := true, errors := 0, overflow := false, responses := [], replies := [],
                   tx := none, sent := none },
         intake := { outstanding := 64, waiting := some 64, kept := 0, state := .run, low := n / 16, high := n / 8 },
         store := { blockCount := n, free := List.range' 0 n, dram := s.store.dram },
         jobs := State.reset.jobs, classes := State.reset.classes, pools := State.reset.pools,
         lanes := State.reset.lanes,
         meter := { State.reset.meter with
           bank := if s.meter.hold = none then s.meter.bank else s.meter.applyHeld.bank },
         alerts := AlertUnit.fresh, choices := s.choices }) ∧
  (∀ (s : State) (c : Instr),
     (c = .supplyRise ∧ s.supply.halted = true ∨ c = .resetPin ∧ s.Running) →
     let kept := if s.supply.halted = true ∨ s.meter.hold = none then s.meter.bank else s.meter.applyHeld.bank
     let n := 8192 * 2 ^ s.straps.val
     exec c s = .next
       { pending := s.pending, time := 0, supply := { halted := false, bankValid := true }, straps := s.straps,
         link := { lineInSync := s.link.lineInSync, up := s.link.lineInSync, errors := 0, overflow := false,
                   responses := [], replies := [], tx := none, sent := none },
         intake := { outstanding := if s.link.lineInSync then 64 else 0,
                     waiting := if s.link.lineInSync then some 64 else none, kept := 0, state := .run, low := n / 16,
                     high := n / 8 },
         store := { blockCount := n, free := List.range' 0 n, dram := [] },
         jobs := State.reset.jobs, classes := State.reset.classes, pools := State.reset.pools,
         lanes := State.reset.lanes,
         meter := { State.reset.meter with bank := if s.supply.bankValid then kept else MeterBank.lost },
         alerts := if s.supply.bankValid then AlertUnit.fresh else State.reset.alerts, choices := s.choices }) ∧
  (∀ s : State,
     (s.Running → exec .supplyDrop s = .next
       { s with
         supply := { s.supply with halted := true }, link := { s.link with tx := none },
         meter := if s.meter.hold = none then s.meter else { s.meter.applyHeld with hold := none } }) ∧
     (s.Running → exec .supplyRise s = .next s ∧ exec .backupSupplyLoss s = .next s) ∧
     (s.supply.halted = true →
       exec .backupSupplyLoss s = .next { s with supply := { s.supply with bankValid := false } } ∧
         exec .supplyDrop s = .next s ∧ exec .resetPin s = .next s))

/-! ### The spool link -/

/-- R145, R164, R165: the free transmitter starts the next frame from the first source that has one: CREDIT, response,
urgent alert, REPLY, JOB END, routine alert. A CREDIT takes the waiting place; an ALERT marks its entry in flight; a
JOB END takes the record of the head of the end list. With a frame in flight, or every source empty, nothing happens
(log entry 5). R92, R133, R160: the next row of a GET's REPLY is serialised from its owner as it stands, and a LANE
STATE row clears its lane's delta flags; the next record of a METER READ REPLY takes its account's values as they
stand, and after the last record the coherent flag says whether the hold is still in progress (log entry 24). Nothing
else changes. R24, R90, R111, R125, R150, R151, R163, R172: the bytes of every table row, field by field (the handle
of a lane without a job, and a send position from 2^32 on, are open: log entries 27 and 38; that the recovery time
left of a stopped or overdue timer is 0 is log entry 35, DEDUCED). R158, R169, R170, section 10.3: the bytes of every
uplink frame and of every token to a printer: kind or type, length, body, check (the count of a METER READ REPLY and
the values of JOB BEGIN's resume flag are log entries 46 and 47, DEDUCED). -/
def Obligations.UplinkFramesAndRows : Prop :=
  (∀ s : State, s.Receives →
     let start (f : UplinkFrame) : State := { s with link := { s.link with tx := some f } }
     let alert (e : AlertEntry) : State := { start (.alert
         { source := e.source, kind := e.kind, zone := e.zone, first := e.first, last := e.last,
           occurrences := e.occurrences, overflow := s.alerts.overflow }) with
       alerts := { s.alerts with queue := s.alerts.queue.map (fun x =>
         if x.source = e.source ∧ x.kind = e.kind then { x with inFlight := true, raisedInFlight := false } else x) } }
     let offered (e : AlertEntry) := e.sent = false ∧ e.inFlight = false
     (s.link.tx ≠ none → exec .uplinkFrameStart s = .next s) ∧
     (s.link.tx = none →
       (∀ n, s.intake.waiting = some n → exec .uplinkFrameStart s = .next
         { start (.credit n) with intake := { s.intake with waiting := none } }) ∧
       (s.intake.waiting = none →
         (∀ r rest, s.link.responses = r :: rest → exec .uplinkFrameStart s = .next (start (.response r))) ∧
         (s.link.responses = [] →
           (∀ before e after, s.alerts.queue = before ++ e :: after → offered e → e.cls = .urgent →
             (∀ x ∈ before, ¬(offered x ∧ x.cls = .urgent)) → exec .uplinkFrameStart s = .next (alert e)) ∧
           ((∀ x ∈ s.alerts.queue, ¬(offered x ∧ x.cls = .urgent)) →
             (∀ t first run rest, s.link.replies = .rows t first run :: rest →
               exec .uplinkFrameStart s = .next (start (.getReply t first run []))) ∧
             (∀ first range zero rest, s.link.replies = .meters first range zero :: rest →
               exec .uplinkFrameStart s = .next (start (.meterReply first range zero [] none))) ∧
             (s.link.replies = [] →
               (∀ i rest, s.jobs.endList = i :: rest → exec .uplinkFrameStart s = .next (start (.jobEnd
                 (let j := s.job i
                  { tag := j.tag, handle := { slot := i, gen := j.gen }, outcome := j.outcome, stored := j.stored,
                    delivered := j.delivered, spoiled := j.spoiled, charge := j.charge, split := j.split,
                    forced := j.forced, truncated := j.truncated })))) ∧
               (s.jobs.endList = [] →
                 (∀ before e after, s.alerts.queue = before ++ e :: after → offered e →
                   (∀ x ∈ before, ¬offered x) → exec .uplinkFrameStart s = .next (alert e)) ∧
                 ((∀ x ∈ s.alerts.queue, ¬offered x) → exec .uplinkFrameStart s = .next s)))))))) ∧
  (∀ s : State, s.Receives →
     let put (t : State) (f : UplinkFrame) : State := { t with link := { t.link with tx := some f } }
     (∀ t first run rows r, s.link.tx = some (.getReply t first run rows) → run[rows.length]? = some r →
       (t ≠ .laneState → exec .serialiseRow s = .next (put s (.getReply t first run (rows ++ [s.rowBytes t r])))) ∧
       ∀ l : LaneId, t = .laneState → l.val = r → exec .serialiseRow s = .next
         (put { s with lanes := s.lanes.set l.val { s.lane l with delta := 0 } l.isLt }
           (.getReply t first run (rows ++ [(s.lane l).stateBytes s.time])))) ∧
     (∀ first range zero records coherent a, s.link.tx = some (.meterReply first range zero records coherent) →
       range[records.length]? = some a → exec .serialiseRow s = .next (put s (.meterReply first range zero
         (records ++ [{ account := a, total := s.meter.bank.meters[a].total, sheets := s.meter.bank.meters[a].sheets,
                        reserved := s.meter.reserved[a], saturated := s.meter.bank.meters[a].saturated }]) coherent))) ∧
     ∀ first range zero records, s.link.tx = some (.meterReply first range zero records none) →
       range.length ≤ records.length → exec .serialiseRow s = .next
         (put s (.meterReply first range zero records (some (decide (s.meter.hold ≠ none)))))) ∧
  (∀ s : State,
     let num (k x : Nat) : List Byte := (List.range k).map (fun i => BitVec.ofNat 8 (x / 256 ^ (k - 1 - i)))
     let yes (b : Bool) : List Byte := [if b then 1 else 0]
     let opt (x : Option Nat) : List Byte := num 1 (x.getD 255)
     let flags (a b c d : Bool) : Nat := a.toNat + 2 * b.toNat + 4 * c.toNat + 8 * d.toNat
     s.rowBytes .system 0 = num 4 s.intake.high ++ num 4 s.intake.low ++ num 1 s.alerts.office.val ++
       num 1 (flags s.meter.bank.retentionLost s.alerts.overflow s.link.overflow false) ++ num 4 s.store.blockCount ++
       num 4 s.store.free.length ++ num 1 s.intake.outstanding ++ yes (decide (s.intake.state = .stop)) ++
       num 4 s.time.toNat ++ num 2 s.link.errors ∧
     (∀ c : ClassId, let r := s.classes[c]
       s.rowBytes .cls c.val = opt (r.pool.map Fin.val) ++ num 1 r.priority.val ++ yes r.holdOnOpen ++
         num 1 (r.threshold.getD 0)) ∧
     (∀ p : PoolId, s.rowBytes .pool p.val = num 1 (s.pool p).threshold ++ opt ((s.pool p).fallback.map Fin.val) ++
       yes (decide (∃ l : LaneId, (s.lane l).effPool = some p ∧ (s.lane l).state ≠ .offline ∧ (s.lane l).state ≠ .down)) ++
       num 1 (s.pool p).rotor.val ++
       num 1 ((List.finRange 16).filter (fun l => decide ((s.lane l).effPool = some p))).length) ∧
     (∀ l : LaneId, let x := s.lane l; let c := s.meter.bank.counters[l]
       s.rowBytes .laneConfig l.val = yes x.enabled ++ opt (x.pool.map Fin.val) ++ num 1 x.zone.val ++
         num 2 x.stallCeiling ++ num 2 x.stallFloor ++ num 1 x.recoveryDelay ∧
       s.rowBytes .laneCounters l.val = num 4 c.delivered ++ num 4 c.spoiled ++ num 6 c.spoiledCharge ++ num 4 c.jams ++
         num 4 c.stalls ++ num 4 c.phantoms ∧
       s.rowBytes .laneState l.val = x.stateBytes s.time ∧
       ∃ handle place : List Byte, handle.length = 2 ∧ place.length = 4 ∧
         (∀ h : Handle, x.job = some h → handle = num 1 h.slot.val ++ [h.gen]) ∧
         (x.sendPos < 4294967296 → place = num 4 x.sendPos) ∧
         x.stateBytes s.time =
           num 1 ([LaneState.offline, .down, .idle, .sending, .starved, .paused, .draining, .jammed,
             .recovering].idxOf x.state) ++ opt (x.effPool.map Fin.val) ++
           num 1 (flags x.prologueDue x.inSheet x.stallCaused x.enabled +
             16 * flags x.pollOut x.capture.isSome x.stallTimer.isSome x.recoveryTimer.isSome) ++
           yes x.job.isSome ++ handle ++ place ++ num 1 x.credits ++ num 1 x.inFlight.length ++
           num 4 (match x.inFlight with | e :: _ => e.sheet | [] => 0) ++
           num 4 (match x.inFlight.getLast? with | some e => e.sheet | none => 0) ++ yes x.command.isSome ++
           [x.command.getD 0, x.mirror, x.delta] ++ num 1 x.misses ++ num 2 (x.capture.getD 0) ++
           num 2 (match x.stallTimer with | some t => t.length | none => 0) ++
           num 1 (match x.recoveryTimer with | some t => (t.length - since s.time t.start + 99) / 100 | none => 0)) ∧
     (∀ m : MediaId, let r := s.meter.tariff[m]
       s.rowBytes .tariff m.val = num 2 r.w0 ++ num 2 r.w1 ++ num 2 r.w2 ++ num 1 r.duplex) ∧
     (∀ a : AccountId, let r := s.meter.accounts[a]
       s.rowBytes .account a.val = yes r.enabled ++ num 1 r.factor ++ yes r.budget.isSome ++ num 4 (r.budget.getD 0)) ∧
     (∀ i : Slot, let j := s.job i
       let stop (r : Option StopRequest) : Nat := match r with
         | none => 0
         | some .cancel => 1
         | some (.fail _) => 2
         | some .hold => 3
         | some .requeue => 4
       let why (r : FailReason) : Nat := match r with | .sequence => 1 | .overrun => 2 | .linkLost => 3
       s.rowBytes .job i.val = [j.gen] ++
         num 1 ([JobState.free, .filling, .ready, .held, .printing, .done].idxOf j.state) ++
         num 1 (match j.holdReason with | none => 0 | some .operator => 1 | some .budget => 2) ++
         num 1 (stop j.stop) ++
         num 1 (match (j.outcome, j.stop) with | (some (.failed r), _) => why r | (_, some (.fail r)) => why r | _ => 0) ++
         num 1 (match j.outcome with | none => 0 | some .completed => 1 | some .cancelled => 2 | some (.failed _) => 3) ++
         num 4 j.tag.toNat ++ num 1 j.cls.val ++ num 1 j.pool.val ++ num 1 j.priority.val ++ num 1 j.threshold ++
         num 1 j.account.val ++ num 1 (flags j.isOpen j.split j.forced j.truncated) ++ num 2 j.nextSeq.toNat ++
         num 4 j.chain.length ++ num 4 j.stored ++ num 4 j.nextUnsent ++ num 1 j.inFlight ++ num 4 j.delivered ++
         num 4 j.spoiled ++ num 6 j.charge ++ opt (j.lane.map Fin.val) ++ num 4 j.readySince.toNat) ∧
     (∀ n : Nat, n < 48 → s.rowBytes .alert n = (match s.alerts.queue[n]? with
       | some e => num 1 1 ++ e.source.bytes ++ [e.kind.code] ++ num 1 e.cls.rank ++ num 1 e.zone.val ++
         num 4 e.first.toNat ++ num 4 e.last.toNat ++ num 1 e.occurrences ++
         num 1 (flags e.sent e.inFlight e.raisedInFlight false)
       | none => List.replicate 16 0)) ∧
     (∀ z : ZoneId, let x := s.zone z
       s.rowBytes .zone z.val = num 1 x.urgentOn ++ num 1 x.urgentPeriod ++ num 1 x.noticeOn ++ num 1 x.noticePeriod ++
         num 1 x.escalation ++ num 1 (match x.display with | .urgent => 0 | .notice => 1 | .dark => 3) ++ yes x.escalated ++
         num 1 x.count)) ∧
  (let num (k x : Nat) : List Byte := (List.range k).map (fun i => BitVec.ofNat 8 (x / 256 ^ (k - 1 - i)))
   let put (kind : Byte) (body : List Byte) : List Byte :=
     let head := kind :: (num 2 body.length ++ body)
     head ++ num 2 (crc16 head).toNat
   let item (i : RefuseItem) : List Byte := match i with
     | .handle h => num 1 h.slot.val ++ [h.gen, 0, 0]
     | .tag t => num 4 t.toNat
     | .tableRow t f => [t, f, 0, 0]
     | .laneAction l a => [l, a, 0, 0]
     | .account f => [f, 0, 0, 0]
     | .alertKey t n k => [t, n, k, 0]
     | .zone z => [z, 0, 0, 0]
     | .nothing => [0, 0, 0, 0]
   let end_ (o : JobOutcome) : List Byte := match o with
     | .completed => [0, 0]
     | .cancelled => [1, 0]
     | .failed .sequence => [2, 1]
     | .failed .overrun => [2, 2]
     | .failed .linkLost => [2, 3]
   let codes := [RefusalCode.unknownKind, .badTable, .badIndex, .readOnly, .stale, .noSlot, .noRoute, .noAccount,
     .duplicateTag, .busy, .wrongState, .tooLate]
   (∀ n, (UplinkFrame.credit n).bytes = put 0x81 (num 1 n)) ∧
   (∀ tag (h : Handle), (UplinkFrame.response (.opened tag h)).bytes =
     put 0x82 (num 4 tag.toNat ++ num 1 h.slot.val ++ [h.gen])) ∧
   (∀ kind code i, (UplinkFrame.response (.refuse kind code i)).bytes =
     put 0x83 ([kind] ++ num 1 (codes.idxOf code) ++ item i)) ∧
   (∀ (t : Table) first run rows, (UplinkFrame.getReply t first run rows).bytes =
     put 0x84 ([0, t.code, first] ++ num 1 run.length ++ rows.flatten)) ∧
   (∀ first range zero (records : List MeterRecord) (flag : Bool),
     (UplinkFrame.meterReply first range zero records (some flag)).bytes =
       put 0x84 ([1, first] ++ num 1 range.length ++ records.flatMap (fun r => num 1 r.account.val ++ num 6 r.total ++
         num 4 r.sheets ++ num 6 r.reserved ++ num 1 r.saturated.toNat) ++ num 1 flag.toNat)) ∧
   (∀ a : AlertFrame, (UplinkFrame.alert a).bytes =
     put 0x85 (a.source.bytes ++ [a.kind.code] ++ num 1 a.kind.cls.rank ++ num 1 a.zone.val ++ num 4 a.first.toNat ++
       num 4 a.last.toNat ++ num 1 a.occurrences ++ num 1 a.overflow.toNat)) ∧
   (∀ (e : JobEnd) (o : JobOutcome), e.outcome = some o → (UplinkFrame.jobEnd e).bytes =
     put 0x86 (num 4 e.tag.toNat ++ num 1 e.handle.slot.val ++ [e.handle.gen] ++
       end_ o ++ num 4 e.stored ++ num 4 e.delivered ++
       num 4 e.spoiled ++ num 6 e.charge ++ num 1 (e.split.toNat + 2 * e.forced.toNat + 4 * e.truncated.toNat))) ∧
   LaneToken.poll.bytes = put 0x01 [] ∧ LaneToken.jobFinish.bytes = put 0x05 [] ∧
   (∀ tag resume, (LaneToken.jobBegin tag resume).bytes = put 0x02 (num 4 tag.toNat ++ num 1 resume.toNat)) ∧
   (∀ bytes, (LaneToken.data bytes).bytes = put 0x03 bytes) ∧
   (∀ (tag : Half) sheet (m : Mark), (LaneToken.sheetBegin tag sheet m).bytes =
     put 0x04 (num 2 tag.toNat ++ num 4 sheet ++ num 1 m.media.val ++
       num 1 (match m.sides with | .one => 1 | .two => 2) ++
       num 1 (match m.colour with | .mono => 0 | .accent => 1 | .full => 2))) ∧
   ∀ code, (LaneToken.command code).bytes = put 0x06 [code])

/-- R42, R146, R159, R165: the handover of a CREDIT, a response or an ALERT. The waiting place takes the amount kept
apart and is otherwise empty; the oldest entry leaves the response queue; the ALERT's entry, if it is still queued in
flight, is settled: PENDING again when it was raised in flight, removed when it is INFO, and SENT otherwise. Nothing
else changes but the frame last handed over (log entry 31). R135, R160: the handover of a REPLY, all serialised. The
oldest REPLY leaves the reply queue. For a METER READ with the zero flag each account's metered total and delivered
sheets fall by what its record reported; while the hold is in progress the SATURATED flags reported set are cleared,
the held entries are applied and the hold ends; last, the accounts are re-evaluated in range order. Without the flag
only the held entries are applied and the hold ends. A coherent flag not yet serialised is taken at the handover (log
entry 24, DESIGN CHOICE). R8, R22: the handover of a JOB END frees its slot: it leaves the open list and the end list,
its generation rises by one, wrapping, and every other field of its record is 0, absent or clear. Nothing else changes
but the frame last handed over. -/
def Obligations.Handovers : Prop :=
  (∀ s : State, s.Receives →
     let handed (t : State) (f : UplinkFrame) : State := { t with link := { t.link with tx := none, sent := some f } }
     (∀ n, s.link.tx = some (.credit n) → exec .creditHandover s = .next
       (handed { s with intake := { s.intake with
         waiting := if s.intake.kept = 0 then none else some s.intake.kept, kept := 0 } } (.credit n))) ∧
     (∀ r, s.link.tx = some (.response r) → exec .responseHandover s = .next
       (handed { s with link := { s.link with responses := s.link.responses.drop 1 } } (.response r))) ∧
     (∀ f : AlertFrame, s.link.tx = some (.alert f) → s.AlertLaw →
       let carried (e : AlertEntry) := e.source = f.source ∧ e.kind = f.kind ∧ e.inFlight = true
       ∃ q : List AlertEntry, exec .alertHandover s = .next
           (handed { s with alerts := { s.alerts with queue := q } } (.alert f)) ∧
         ((∀ e ∈ s.alerts.queue, ¬carried e) → q = s.alerts.queue) ∧
         ∀ before e after, s.alerts.queue = before ++ e :: after → carried e → q = before ++
           (if e.raisedInFlight then [{ e with inFlight := false, raisedInFlight := false }]
            else if e.cls = .info then [] else [{ e with sent := true, inFlight := false }]) ++ after)) ∧
  (∀ s : State, s.Receives →
     let handed (t : State) (f : UplinkFrame) : State :=
       { t with link := { t.link with tx := none, sent := some f, replies := t.link.replies.drop 1 } }
     (∀ t first run rows, s.link.tx = some (.getReply t first run rows) → rows.length = run.length →
       exec .replyHandover s = .next (handed s (.getReply t first run rows))) ∧
     (∀ first range records coherent, s.link.tx = some (.meterReply first range false records coherent) →
       records.length = range.length → exec .replyHandover s = .next
         (handed { s with meter := if s.meter.hold = none then s.meter else { s.meter.applyHeld with hold := none } }
           (.meterReply first range false records (some (coherent.getD (decide (s.meter.hold ≠ none))))))) ∧
     ∀ first range records coherent, s.link.tx = some (.meterReply first range true records coherent) →
       records.length = range.length → records.map MeterRecord.account = range → range.Nodup → ∃ u : MeterUnit,
         exec .replyHandover s = .next (range.foldl State.reevaluate
           (handed { s with meter := if s.meter.hold = none then u else { u.applyHeld with hold := none } }
             (.meterReply first range true records (some (coherent.getD (decide (s.meter.hold ≠ none))))))) ∧
         { u with bank := { u.bank with meters := s.meter.bank.meters } } = s.meter ∧
         (∀ a : AccountId, a ∉ range → u.bank.meters[a] = s.meter.bank.meters[a]) ∧
         ∀ r ∈ records, u.bank.meters[r.account] =
           { total := s.meter.bank.meters[r.account].total - r.total,
             sheets := s.meter.bank.meters[r.account].sheets - r.sheets,
             saturated := s.meter.bank.meters[r.account].saturated && !(r.saturated && s.meter.hold.isSome) }) ∧
  (∀ (s : State) (e : JobEnd), s.Receives → s.link.tx = some (.jobEnd e) → s.jobs.openList.Nodup → s.jobs.endList.Nodup →
     exec .jobEndHandover s = .next
       { s with
         jobs := {
           slots := s.jobs.slots.set e.handle.slot.val (Job.freed ((s.job e.handle.slot).gen + 1)) e.handle.slot.isLt,
           openList := s.jobs.openList.filter (fun i => decide (i ≠ e.handle.slot)),
           endList := s.jobs.endList.filter (fun i => decide (i ≠ e.handle.slot)) },
         link := { s.link with tx := none, sent := some (.jobEnd e) } })

/-- R43, R136, R147, R166: LINK DOWN. The link is DOWN with both queues empty and no frame in flight, credits are 0
with nothing waiting or kept apart (R43 and R166 against R163's last sentence, log entry 44, DESIGN CHOICE), a hold is
abandoned with its held entries applied, no alert is in flight, and every live job is closed. R18, R65: an open job
that was FILLING, READY or HELD is DONE, FAILED with LINK LOST, its blocks returned and its slot in the end list; an
open PRINTING job with no request before carries FAIL, or has ended FAILED with LINK LOST, and any other carries a
final request while it is PRINTING. No table and no stored byte changes. The order in which the jobs fail is free (log
entry 15). R41, R43, R167: LINK UP. The link is UP and a grant is evaluated; nothing else changes. A LINK UP while it
is UP and a LINK DOWN while it is DOWN only note the line's sync. (The premise that the laws on jobs hold, by which a
PRINTING job and its lane name each other, is an invariant, stated above.) -/
def Obligations.LinkDownAndUp : Prop :=
  (∀ s : State, s.Receives → s.JobLaw → ∃ t : State, exec .linkDown s = .next t ∧
     t.link = { s.link with lineInSync := false, up := false, responses := [], replies := [], tx := none } ∧
     t.intake.outstanding = 0 ∧ t.intake.waiting = none ∧ t.intake.kept = 0 ∧
     t.meter = (if s.meter.hold = none then s.meter else { s.meter.applyHeld with hold := none }) ∧
     (∀ e ∈ t.alerts.queue, e.inFlight = false ∧ e.raisedInFlight = false) ∧
     (∀ i : Slot, (s.job i).state ≠ .free → (s.job i).state ≠ .done → (t.job i).isOpen = false) ∧
     (∀ i : Slot, (s.job i).isOpen = true → (s.job i).state ∈ [JobState.filling, .ready, .held] →
       (t.job i).state = .done ∧ (t.job i).outcome = some (.failed .linkLost) ∧ (t.job i).chain = [] ∧
         i ∈ t.jobs.endList ∧ (∀ e ∈ (s.job i).chain, e.block ∈ t.store.free)) ∧
     (∀ i : Slot, (s.job i).isOpen = true → (s.job i).state = .printing → (t.job i).state = .printing →
       ∃ r, (t.job i).stop = some r ∧ r.final = true) ∧
     (∀ i : Slot, (s.job i).isOpen = true → (s.job i).state = .printing → (s.job i).stop = none →
       (t.job i).state = .printing ∧ (t.job i).stop = some (.fail .linkLost) ∨
         (t.job i).state = .done ∧ (t.job i).outcome = some (.failed .linkLost)) ∧
     t.store.dram = s.store.dram ∧ t.classes = s.classes ∧ t.time = s.time) ∧
  (∀ s : State, s.Running →
     (s.link.up = false → exec .linkUp s = .next
       ({ s with link := { s.link with lineInSync := true, up := true } } : State).evalGrant) ∧
     (s.link.up = true → exec .linkUp s = .next { s with link := { s.link with lineInSync := true } }) ∧
     (s.link.up = false → exec .linkDown s = .next { s with link := { s.link with lineInSync := false } }))

/-! ### Printer tokens -/

/-- R92, R93, R96: a STATUS taken in any state but OFFLINE: the mirror shows its fields, a field that differed has its
delta flag set (against a mirror of zeros in DOWN), the miss count and the outstanding poll are cleared, and the jam
count rises exactly at a rise of JAM. R93, R94, R98, R102, R103: a STATUS without a rise of JAM, by the lane's state.
SENDING and STARVED lanes whose printer is not ready are PAUSED; DRAINING, IDLE and RECOVERING lanes keep their state,
and so do SENDING, STARVED and PAUSED ones where nothing has changed; a DOWN lane comes up with credits 0, IDLE or
with a job of its pool; a JAMMED lane without a job that was not stall-caused is IDLE, or has its next job, when JAM,
COVER OPEN and PANEL OFFLINE read 0 and one of them fell. R94: a PAUSED lane whose printer is ready (JAM 0 too, log
entry 37) returns to its resume state with its stall timer restarted, and then meets a stop request, reads again, or
takes the steps at a mark again (log entries 19 and 23). R93: a rise of JAM runs the jam handling on the lane so
reported. The alerts: LANE UP for a DOWN lane, JAM after what the jam handling raised, and those of the edges in the
table's order, also on a lane that stays PAUSED or leaves it. -/
def Obligations.StatusTokens : Prop :=
  (∀ (s : State) (l : LaneId) (fields : Byte), s.Hears l → (s.lane l).state ≠ .idle ∨ (s.lane l).job = none →
     ∃ t : State, exec (.status l fields) s = .next t ∧
       (t.lane l).mirror = fields ∧ (t.lane l).delta = (s.lane l).delta ||| ((s.lane l).mirror ^^^ fields) ∧
       (t.lane l).misses = 0 ∧ (t.lane l).pollOut = false ∧ (t.lane l).enabled = (s.lane l).enabled ∧
       t.meter.bank.counters[l].jams = (if (s.lane l).mirror.getLsbD 3 = false ∧ fields.getLsbD 3 = true then
         min (s.meter.bank.counters[l].jams + 1) 4294967295 else s.meter.bank.counters[l].jams) ∧
       t.meter.bank.meters = s.meter.bank.meters ∧ t.link = s.link ∧ t.store.dram = s.store.dram ∧
       t.classes = s.classes ∧ t.time = s.time) ∧
  (∀ (s : State) (l : LaneId) (fields : Byte), s.Hears l → (s.lane l).Legal →
     ¬((s.lane l).mirror.getLsbD 3 = false ∧ fields.getLsbD 3 = true) →
     let x := s.lane l
     let unready := fields.getLsbD 3 = false ∧ (fields.getLsbD 0 = false ∨ fields.getLsbD 2 = true ∨
       fields.getLsbD 4 = true ∨ fields.getLsbD 6 = true ∨ fields.getLsbD 7 = true)
     let clear := fields.getLsbD 3 = false ∧ fields.getLsbD 4 = false ∧ fields.getLsbD 6 = false
     let fell := x.mirror.getLsbD 3 = true ∨ x.mirror.getLsbD 4 = true ∨ x.mirror.getLsbD 6 = true
     ∃ t : State, exec (.status l fields) s = .next t ∧
       (x.state = .sending ∨ x.state = .starved → unready → (t.lane l).state = .paused ∧ (t.lane l).job = x.job ∧
         (t.lane l).resume = some (if x.state = .sending then .sending else .starved) ∧ (t.lane l).stallTimer = none) ∧
       (x.state = .sending ∨ x.state = .starved → ¬unready → (t.lane l).state = x.state ∧ (t.lane l).job = x.job) ∧
       (x.state = .paused → unready ∨ fields.getLsbD 3 = true →
         (t.lane l).state = .paused ∧ (t.lane l).resume = x.resume) ∧
       (x.state ∈ [LaneState.draining, .idle, .recovering] → (t.lane l).state = x.state ∧ (t.lane l).job = x.job) ∧
       (x.state = .down → (t.lane l).credits = 0 ∧ ((t.lane l).state = .idle ∧ (t.lane l).job = none ∨
         (t.lane l).state ∈ [LaneState.sending, .paused] ∧ (t.lane l).job ≠ none)) ∧
       (x.state = .jammed → x.job = none → x.stallCaused = false → clear → fell →
         (t.lane l).state = .idle ∧ (t.lane l).job = none ∨
         (t.lane l).state ∈ [LaneState.sending, .paused] ∧ (t.lane l).job ≠ none) ∧
       (x.state = .jammed → x.stallCaused = true ∨ ¬clear ∨ ¬fell → (t.lane l).state = .jammed ∧
         (t.lane l).job = x.job) ∧
       (x.state = .jammed → x.job ≠ none → x.stallCaused = false → clear → fell → (t.lane l).job = x.job ∧
         ((t.lane l).state = .recovering ∨ x.recoveryDelay = 0 ∧ (t.lane l).state ∈ [LaneState.sending, .paused])) ∧
       (x.state ≠ .paused → t.jobs.endList = s.jobs.endList)) ∧
  (∀ (s : State) (l : LaneId) (fields : Byte) (r : Resume) (h : Handle), s.Hears l → (s.lane l).state = .paused →
     (s.lane l).resume = some r → (s.lane l).job = some h →
     fields.getLsbD 3 = false ∧ fields.getLsbD 0 = true ∧ fields.getLsbD 2 = false ∧ fields.getLsbD 4 = false ∧
       fields.getLsbD 6 = false ∧ fields.getLsbD 7 = false →
     let x := s.lane l
     let limit := match x.capture with
       | some k => if 4 * k < x.stallFloor then x.stallFloor else if x.stallCeiling < 4 * k then x.stallCeiling else 4 * k
       | none => x.stallCeiling
     let y : Lane :=
       { x with
         state := (match r with | .sending => .sending | .starved => .starved), resume := none,
         mirror := fields, delta := x.delta ||| (x.mirror ^^^ fields), misses := 0, pollOut := false,
         recoveryTimer := (match r with | .sending => none | .starved => x.recoveryTimer),
         stallTimer := if x.inFlight = [] then none else some { start := s.time, length := limit } }
     let u : State :=
       { s with alerts := (s.raiseAll l (edgeAlerts x.mirror fields)).alerts, lanes := s.lanes.set l.val y l.isLt }
     let j := s.job h.slot
     let boundary := y.inSheet = false ∧ y.prologueDue = false
     exec (.status l fields) s = .next
       (if j.stop ≠ none ∧ boundary then u.drain l
        else if r = .starved then u.wake l h.slot
        else u.retryRoom l) ∧
     (r = .sending → j.stop = none ∨ ¬boundary → y.roomWait = false → exec (.status l fields) s = .next u) ∧
     (r = .starved → j.stop = none ∨ ¬boundary → j.readAt x.sendPos = .wait → exec (.status l fields) s = .next u)) ∧
  (∀ (s : State) (l : LaneId) (fields : Byte), s.Hears l → (s.lane l).Legal →
     let x := s.lane l
     let jammed := x.mirror.getLsbD 3 = false ∧ fields.getLsbD 3 = true
     let edges := edgeAlerts x.mirror fields
     let up (t : State) : State := if x.state = .down then t.raiseLane l .laneUp else t
     let stays := x.state = .paused → notReady fields = true ∨ fields.getLsbD 3 = true
     ∃ t : State, exec (.status l fields) s = .next t ∧
       (¬jammed → stays → t.alerts = ((up s).raiseAll l edges).alerts) ∧
       (jammed → ∃ u : State, u = (up s).setLane l { x with
           mirror := fields, delta := x.delta ||| (x.mirror ^^^ fields), misses := 0, pollOut := false,
           credits := if x.state = .down then 0 else x.credits } ∧
         t.jobs = (u.jam l).jobs ∧ t.lanes = (u.jam l).lanes ∧ t.store = (u.jam l).store ∧
         t.intake = (u.jam l).intake ∧ t.pools = (u.jam l).pools ∧
         t.alerts = (((u.jam l).raiseLane l .jam).raiseAll l edges).alerts))

/-- R99, R100, R102, R107: jam handling, at a rise of JAM or a stall expiry. A SENDING, STARVED or PAUSED lane that
carries a job with no stop request is JAMMED with it, its list spoiled and its job rewound to the oldest spoiled
sheet, and reads next from the restart point; its credits are kept. With a stop request, and in DRAINING, the request
is then applied (R101). An IDLE or RECOVERING lane is JAMMED, a DOWN one comes up so (R98); a JAMMED lane stays so, no
longer stall-caused. R99, R127: the spoiling of one entry in flight: its charge leaves its account's reserved total,
the lane's spoiled sheets and spoiled charge rise, its job's sheets in flight fall and its spoiled sheets rise; no
account meter changes. R100, R101, R107: a stall expiry in SENDING, STARVED or DRAINING. Jam handling is carried out,
a lane left JAMMED is stall-caused, an URGENT STALL alert is raised and the stall count rises; no jam is counted.
Before the timer has reached its limit the command has no effect (log entry 5). -/
def Obligations.JamsAndStalls : Prop :=
  (∀ (s : State) (l : LaneId),
     let x := s.lane l
     let t := s.jam l
     (∀ h : Handle, x.state ∈ [LaneState.sending, .starved, .paused] → x.job = some h → (s.job h.slot).stop = none →
       (t.lane l).state = .jammed ∧ (t.lane l).job = some h ∧ (t.lane l).inFlight = [] ∧ (t.lane l).inSheet = false ∧
       (t.lane l).prologueDue = false ∧ (t.lane l).resume = none ∧ (t.lane l).stallTimer = none ∧
       (t.lane l).capture = none ∧ (t.lane l).credits = x.credits ∧
       (t.lane l).sendPos = (t.job h.slot).restartPos ∧
       (∀ e rest, x.inFlight = e :: rest → e.job = h →
         (t.job h.slot).nextUnsent = e.sheet ∧ (t.job h.slot).restart = .fixed e.markPos) ∧
       (x.inFlight = [] → (t.job h.slot).nextUnsent = (s.job h.slot).nextUnsent ∧
         (t.job h.slot).restart = (s.job h.slot).restart ∧ t.meter = s.meter) ∧ t.alerts = s.alerts) ∧
     (∀ h : Handle, x.state ∈ [LaneState.sending, .starved, .paused, .draining] → x.job = some h →
       ∃ u : State, t = u.applyStop l ∧ (u.lane l).state = .jammed ∧ (u.lane l).job = some h ∧ (u.lane l).inFlight = [] ∧
         (u.lane l).enabled = x.enabled ∧ (u.job h.slot).stop = (s.job h.slot).stop ∧ u.alerts = s.alerts ∧
         (∀ e rest, x.inFlight = e :: rest → e.job = h →
           (u.job h.slot).nextUnsent = e.sheet ∧ (u.job h.slot).restart = .fixed e.markPos)) ∧
     (x.state = .idle ∨ x.state = .recovering → (t.lane l).state = .jammed ∧ (t.lane l).job = x.job ∧
       (t.lane l).recoveryTimer = none ∧ t.jobs = s.jobs ∧ t.meter = s.meter ∧ t.alerts = s.alerts) ∧
     (x.state = .down → (t.lane l).state = .jammed ∧ (t.lane l).job = x.job ∧ t.meter = s.meter ∧ t.alerts = s.alerts) ∧
     (x.state = .jammed → t = { s with lanes := s.lanes.set l.val { x with stallCaused := false } l.isLt }) ∧
     t.link = s.link ∧ t.store.dram = s.store.dram ∧
     t.meter.bank.meters = s.meter.bank.meters) ∧
  (∀ (s : State) (l : LaneId) (e : InFlight),
     let t := s.spoilOne l e
     let c := s.meter.bank.counters[l]
     let j := s.job e.job.slot
     let counted : LaneCounters :=
       { c with spoiled := min (c.spoiled + 1) 4294967295,
                spoiledCharge := min (c.spoiledCharge + e.charge) 281474976710655 }
     t = ({ s with meter := { s.meter with
       reserved := s.meter.reserved.set e.account.val (s.meter.reserved[e.account] - e.charge) e.account.isLt,
       bank := { s.meter.bank with counters := s.meter.bank.counters.set l.val counted l.isLt } } } : State).setJob
         e.job.slot { j with inFlight := j.inFlight - 1, spoiled := min (j.spoiled + 1) 4294967295 }) ∧
  (∀ (s : State) (l : LaneId) (timer : Timer), s.Running → (s.lane l).stallTimer = some timer →
     (s.lane l).state ∈ [LaneState.sending, .starved, .draining] →
     (since s.time timer.start < timer.length → exec (.stallExpiry l) s = .next s) ∧
     (timer.length ≤ since s.time timer.start → ∃ t u : State, exec (.stallExpiry l) s = .next t ∧
       (u = s.jam l ∨ ((s.jam l).lane l).state = .jammed ∧
         u = (s.jam l).setLane l { (s.jam l).lane l with stallCaused := true }) ∧
       (((s.jam l).lane l).state = .jammed → (t.lane l).stallCaused = true ∧ (t.lane l).state = .jammed) ∧
       t.alerts = (u.raiseLane l .stall).alerts ∧
       t.meter.bank.counters[l].stalls = min (s.meter.bank.counters[l].stalls + 1) 4294967295 ∧
       t.meter.bank.counters[l].jams = s.meter.bank.counters[l].jams ∧ t.jobs = (s.jam l).jobs ∧
       t.store = (s.jam l).store ∧ t.link = s.link ∧ t.meter.bank.meters = s.meter.bank.meters))

/-- R69, R96, R171: a CREDIT token adds its count to the printer credits, held at 63, and clears the miss count; in
DOWN the credits stay. A discarded token changes nothing. R67: in OFFLINE every token from the printer is discarded
and changes nothing. R95, R96: polls. An expired poll timer makes a POLL due and starts again with the interval of the
lane's state, from the time of the command where that is late (log entry 7, DEDUCED); the transmitter takes a due POLL
when no command is pending, and the miss count rises, up to 3, when one was outstanding; at 3 the lane is lost in the
same operation, in every state but DOWN (R97; the command LANE_LOSS stands for that POLL too, log entry 8). R68: the
transmitter takes the oldest token of the job stream when no command is pending and no POLL is due, but not while the
lane is PAUSED (log entry 21 for the other states). An expiry before its time, a POLL SEND with none due, a LANE LOSS
of a lane that is not lost and a token that is not free to go have no effect (log entry 5, DESIGN CHOICE). -/
def Obligations.LaneTransmitter : Prop :=
  (∀ (s : State) (l : LaneId) (count : Byte), s.Hears l → (s.lane l).credits ≤ 63 →
     exec (.printerCredit l count) s = .next (s.setLane l
       { s.lane l with
         misses := 0, pollOut := false,
         credits := if (s.lane l).state = .down then (s.lane l).credits
           else min ((s.lane l).credits + count.toNat) 63 }) ∧
     exec (.tokenDiscard l) s = .next s) ∧
  (∀ (s : State) (l : LaneId) (fields : Byte), (s.lane l).state = .offline →
     exec (.status l fields) s = .next s ∧ exec (.printerCredit l fields) s = .next s ∧ exec (.sheetOut l) s = .next s ∧
       exec (.tokenDiscard l) s = .next s) ∧
  (∀ (s : State) (l : LaneId) (timer : Timer), s.Running → (s.lane l).state ≠ .offline →
     let x := s.lane l
     let put (y : Lane) : State := { s with lanes := s.lanes.set l.val y l.isLt }
     let interval := match x.state with
       | .offline => 0
       | .down => 1000
       | .idle => 500
       | .sending | .starved | .paused | .draining => 50
       | .jammed | .recovering => 100
     let misses := if x.pollOut then min (x.misses + 1) 3 else x.misses
     let polled : Lane := { x with pollDue := false, pollOut := true, lastToken := some .poll, misses := misses }
     (x.pollTimer = some timer → timer.length ≤ since s.time timer.start → exec (.pollTimerExpiry l) s = .next
       (put { x with pollDue := true, pollTimer := some { start := s.time, length := interval } })) ∧
     (x.pollTimer = some timer → since s.time timer.start < timer.length →
       exec (.pollTimerExpiry l) s = .next s) ∧
     (x.pollDue = true → x.command = none → x.misses ≤ 3 → misses ≠ 3 ∨ x.state = .down →
       exec (.pollSend l) s = .next (put polled)) ∧
     (x.pollDue = true → x.command = none → misses = 3 → x.state ≠ .down →
       exec (.pollSend l) s = .next ((put polled).lose l) ∧
       (x.misses ≠ 3 → exec (.laneLoss l) s = .next ((put polled).lose l))) ∧
     (x.pollDue = false ∨ x.command ≠ none → exec (.pollSend l) s = .next s) ∧
     (x.misses = 3 → x.state ≠ .down → exec (.laneLoss l) s = .next (s.lose l)) ∧
     (x.state = .down ∨ x.misses ≠ 3 ∧ (x.pollDue = false ∨ x.command ≠ none ∨ misses ≠ 3) →
       exec (.laneLoss l) s = .next s)) ∧
  (∀ (s : State) (l : LaneId) (token : StreamToken) (rest : List StreamToken), s.Running →
     (s.lane l).stream = token :: rest →
     let free := (s.lane l).command = none ∧ (s.lane l).pollDue = false ∧ (s.lane l).state ≠ .paused
     (free → exec (.jobStreamTokenTaken l) s = .next (s.setLane l
       { s.lane l with
         stream := rest,
         lastToken := some (match token with
           | .jobBegin tag resume => .jobBegin tag resume
           | .jobFinish => .jobFinish) })) ∧
     (¬free → exec (.jobStreamTokenTaken l) s = .next s))

/-- R109, R110: SHEET OUT. With nothing in flight it is a phantom: the miss count is cleared, the phantom count rises
and an INFO PHANTOM SHEET alert is raised. Otherwise the oldest entry is delivered (R126): the job's sheets in flight
fall, its delivered sheets and charge total rise, the lane keeps the rest of the list and the moment of this sheet
(R108), with the interval since the one before as its capture, the stall timer starts again or stops (R106), and the
chain is checked (R37). Then, in this order: a job that is complete ends COMPLETED and the lane leaves it (R14, R81,
log entry 41 for the order of the two checks at a DATA token); a DRAINING lane whose list is now empty applies its
stop request (R83); a SENDING lane that waits at a mark for room takes the steps of R76 again, at a gap of its
transmitter (log entry 19). -/
def Obligations.SheetOutDeliversTheOldestEntry : Prop :=
  (∀ (s : State) (l : LaneId), s.Hears l →
     ((s.lane l).inFlight = [] → exec (.sheetOut l) s = .next (
       let c := s.meter.bank.counters[l]
       let counted : LaneCounters := { c with phantoms := min (c.phantoms + 1) 4294967295 }
       let t := s.setLane l { s.lane l with misses := 0, pollOut := false }
       ({ t with meter := { s.meter with bank := { s.meter.bank with
         counters := s.meter.bank.counters.set l.val counted l.isLt } } } : State).raiseLane l .phantomSheet)) ∧
     ∀ (e : InFlight) (rest : List InFlight), (s.lane l).inFlight = e :: rest → (s.lane l).state ≠ .idle →
       ∃ t : State, exec (.sheetOut l) s = .next t ∧
         t.meter.bank = (s.meter.deliver l e.account e.charge).bank ∧
         t.meter.held = (s.meter.deliver l e.account e.charge).held ∧
         t.meter.hold = (s.meter.deliver l e.account e.charge).hold ∧
         (t.job e.job.slot).delivered = min ((s.job e.job.slot).delivered + 1) 4294967295 ∧
         (t.job e.job.slot).charge = min ((s.job e.job.slot).charge + e.charge) 281474976710655 ∧
         (t.job e.job.slot).stored = (s.job e.job.slot).stored ∧ (t.lane l).misses = 0 ∧ (t.lane l).pollOut = false ∧
         (rest ≠ [] → (s.job e.job.slot).isOpen = true ∨
             (s.job e.job.slot).delivered + 1 < (s.job e.job.slot).stored →
           (t.lane l).job = (s.lane l).job ∧ (∃ more, (t.lane l).inFlight = rest ++ more) ∧
           (t.lane l).lastSheet = some s.time) ∧
         ((s.lane l).state ≠ .sending ∨ (s.lane l).roomWait = false →
           (t.job e.job.slot).inFlight = (s.job e.job.slot).inFlight - 1) ∧
         t.link = s.link ∧ t.store.dram = s.store.dram ∧ t.classes = s.classes ∧ t.time = s.time) ∧
  (∀ (s : State) (l : LaneId) (e : InFlight) (rest : List InFlight), s.Hears l → (s.lane l).inFlight = e :: rest →
     (s.job e.job.slot).lane = some l →
     let i := e.job.slot
     let x := s.lane l
     let j : Job :=
       { s.job i with
         inFlight := (s.job i).inFlight - 1, delivered := min ((s.job i).delivered + 1) 4294967295,
         charge := min ((s.job i).charge + e.charge) 281474976710655 }
     let capture := match x.lastSheet with
       | some t => some (max 1 (min (since s.time t) 65535))
       | none => x.capture
     let limit := match capture with
       | some k => if 4 * k < x.stallFloor then x.stallFloor else if x.stallCeiling < 4 * k then x.stallCeiling else 4 * k
       | none => x.stallCeiling
     let y : Lane :=
       { x with
         inFlight := rest, misses := 0, pollOut := false, capture := capture, lastSheet := some s.time,
         stallTimer := if rest = [] ∨ x.state ∉ [LaneState.sending, .starved, .draining] then none
           else some { start := s.time, length := limit } }
     let delivered : State :=
       { s with meter := s.meter.deliver l e.account e.charge,
                jobs := { s.jobs with slots := s.jobs.slots.set i.val j i.isLt },
                lanes := s.lanes.set l.val y l.isLt }
     let u := delivered.release i
     let complete := j.state = .printing ∧ j.isOpen = false ∧ j.delivered = j.stored ∧ x.sendPos = j.storedEnd ∧
       x.prologueDue = false ∧ ∀ r, j.stop = some r → r = .hold ∨ r = .requeue
     exec (.sheetOut l) s = .next
       (if complete then u.complete i l
        else if x.state = .draining ∧ rest = [] then u.applyStop l
        else u.retryRoom l)) ∧
  (∀ (s : State) (l : LaneId) (h : Handle), (s.lane l).job = some h →
     let x := s.lane l
     let waits := x.state = .sending ∧ x.roomWait = true ∧ x.command = none ∧ x.pollDue = false ∧ x.stream = []
     (¬waits → s.retryRoom l = s) ∧
     (waits → ∀ m, (s.job h.slot).markAt x.sendPos = some m → s.retryRoom l = s.boundary l h m) ∧
     (waits → (s.job h.slot).markAt x.sendPos = none → s.retryRoom l = s))

/-! ### Reading content -/

/-- R37, R74, R75, R80, R81: a lane in SENDING reads at a gap of its transmitter and acts on the answer. Payload bytes
with a credit available become a DATA token, which takes one credit and moves the send position, after which the chain
is checked and then the completion check is made (no rule orders the two at a DATA token: log entry 41, DESIGN
CHOICE); without a credit the read is not made. At the prologue's end the send position moves to the restart point
(with the chain checked, log entry 25); WAIT takes the lane to STARVED; END is the end of content; these take no
credit, so they are acted on at 0 credits too (log entry 20, DESIGN CHOICE). R46: the answers to a read. At the stored
end WAIT or END; at a mark, the mark; in a data run whose 4-byte head starts at `p`, at most 512 payload bytes from
the position (past the head) to the run's end. R35 to R37: a check of a job's chain: past the blocks that hold
prologue bytes, the blocks wholly below the release point are returned, in order, up to the first that is not; each
return has the intake state and a grant evaluated (R39, R41). A move within a block makes no check. R47, R80: a
STARVED lane reads again. R81: the end of content: in-sheet becomes no, a complete job ends (R14), and a stop request
is met. -/
def Obligations.ReadsOfAJob : Prop :=
  (∀ (s : State) (l : LaneId) (h : Handle), s.Running → (s.lane l).state = .sending → (s.lane l).command = none →
     (s.lane l).pollDue = false → (s.lane l).stream = [] → (s.lane l).job = some h →
     let x := s.lane l
     let j := s.job h.slot
     (∀ pos n next bytes, j.readAt x.sendPos = .bytes pos n next → 0 < x.credits →
       Memory.readContent j.chain s.store.dram pos n = some bytes →
       let t := (s.setLane l { x with
         credits := x.credits - 1, lastToken := some (.data bytes), sendPos := next,
         inSheet := x.inSheet && (j.markAt next).isNone }).releaseMoved l h.slot x.sendPos
       exec (.laneRead l) s = .next (if t.isComplete h.slot then t.complete h.slot l else t)) ∧
     (∀ pos n next, j.readAt x.sendPos = .bytes pos n next → x.credits = 0 → exec (.laneRead l) s = .next s) ∧
     (∀ m, j.readAt x.sendPos = .mark m → x.prologueDue = true →
       let t := (s.setLane l { x with prologueDue := false, sendPos := j.restartPos }).releaseMoved l h.slot x.sendPos
       exec (.laneRead l) s = .next (if (t.job h.slot).stop = none then t else t.drain l)) ∧
     (∀ m, j.readAt x.sendPos = .mark m → x.prologueDue = false → exec (.laneRead l) s = .next (s.boundary l h m)) ∧
     (j.readAt x.sendPos = .wait → exec (.laneRead l) s =
       .next { s with lanes := s.lanes.set l.val { x with state := .starved } l.isLt }) ∧
     (j.readAt x.sendPos = .finished → exec (.laneRead l) s = .next (s.endOfContent l h.slot))) ∧
  (∀ (j : Job) (pos : Nat),
     (j.storedEnd ≤ pos → j.isOpen = true → j.readAt pos = .wait) ∧
     (j.storedEnd ≤ pos → j.isOpen = false → j.readAt pos = .finished) ∧
     ∀ (before after : List Item) (i : Item), j.items = before ++ i :: after → pos < j.storedEnd →
       (∀ x ∈ before, x.pos + x.size ≤ pos) →
       (∀ m, i = { pos := pos, body := .mark m } → j.readAt pos = .mark m) ∧
       ∀ p len, i = { pos := p, body := .run len } → p ≤ pos → pos < p + 4 + len →
         j.readAt pos = .bytes (max pos (p + 4)) (min 512 (p + 4 + len - max pos (p + 4)))
           (max pos (p + 4) + min 512 (p + 4 + len - max pos (p + 4)))) ∧
  (∀ (s : State) (l : LaneId) (i : Slot) (kept gone left : List ChainEntry),
     let j := s.job i
     let holds (e : ChainEntry) := ∀ p, j.prologueEnd = some p → e.ordinal * 4096 < p
     let restart := match j.restart with | .fixed p => p | .following => j.storedEnd
     let point := match j.lane with
       | none => restart
       | some k => min (match (s.lane k).inFlight with | e :: _ => e.markPos | [] => restart) (s.lane k).sendPos
     let below (e : ChainEntry) := (e.ordinal + 1) * 4096 ≤ point
     (j.chain = kept ++ gone ++ left → (∀ e ∈ kept, holds e) → (∀ e ∈ (gone ++ left).head?, ¬holds e) →
       (∀ e ∈ gone, below e) → (∀ e ∈ left.head?, ¬below e) →
       s.release i = (s.setJob i { j with chain := kept ++ left }).returnBlocks (gone.map ChainEntry.block)) ∧
     ∀ old : Nat, s.releaseMoved l i old = if old / 4096 = (s.lane l).sendPos / 4096 then s else s.release i) ∧
  (∀ (s : State) (b : Nat) (rest : List Nat), s.returnBlocks [] = s ∧
     s.returnBlocks (b :: rest) = ({ s with
       store := { s.store with free := s.store.free ++ [b] },
       intake := { s.intake with state := if s.intake.high ≤ s.store.free.length + 1 then .run else s.intake.state } } :
         State).evalGrant.returnBlocks rest) ∧
  (∀ (s : State) (l : LaneId) (i : Slot),
     let x := s.lane l
     let j := s.job i
     let put (y : Lane) : State := { s with lanes := s.lanes.set l.val y l.isLt }
     let content := j.readAt x.sendPos ≠ .wait ∧ j.readAt x.sendPos ≠ .finished
     (x.state ≠ .starved → s.wake l i = s) ∧
     (x.state = .starved → j.readAt x.sendPos = .wait → s.wake l i = s) ∧
     (x.state = .starved → j.readAt x.sendPos = .finished → s.wake l i = s.endOfContent l i) ∧
     (x.state = .starved → content → s.wake l i = put { x with state := .sending, recoveryTimer := none }) ∧
     (x.state = .sending ∨ x.state = .starved → j.lane = some l →
       let t := put { x with state := .sending, inSheet := false, recoveryTimer := none }
       let complete := j.state = .printing ∧ j.isOpen = false ∧ j.delivered = j.stored ∧ x.sendPos = j.storedEnd ∧
         x.prologueDue = false ∧ ∀ r, j.stop = some r → r = .hold ∨ r = .requeue
       (complete → s.endOfContent l i = t.complete i l) ∧
       (¬complete → j.stop ≠ none → s.endOfContent l i = t.drain l) ∧
       (¬complete → j.stop = none → s.endOfContent l i = t)))

/-- R36, R76, R77, R78, R79: a lane at a sheet boundary with mark `m` before it. A stop request drains the lane; 32
entries in flight make it wait; otherwise the charge is checked and reserved in one operation, and the sheet starts:
SHEET BEGIN is sent, an entry with the charge and the mark's position joins the list, next unsent sheet and sheets in
flight rise, and the send position moves past the mark. A failing check leaves a HOLD request and drains. -/
def Obligations.SheetBoundary : Prop :=
  ∀ (s : State) (l : LaneId) (h : Handle) (m : Mark),
    let x := s.lane l
    let j := s.job h.slot
    let c := s.meter.charge j.account m
    let entry : InFlight :=
      { job := h, sheet := j.nextUnsent, charge := c, markPos := x.sendPos, account := j.account }
    x.state ≠ .idle →
    (j.stop ≠ none → s.boundary l h m = s.drain l) ∧
    (j.stop = none → 32 ≤ x.inFlight.length → s.boundary l h m =
      { s with lanes := s.lanes.set l.val { x with roomWait := true } l.isLt }) ∧
    (j.stop = none → x.inFlight.length < 32 → s.meter.passes j.account c = false → s.boundary l h m =
      (s.setJob h.slot { j with stop := some .hold }).drain l) ∧
    (j.stop = none → x.inFlight.length < 32 → s.meter.passes j.account c = true →
      let t := s.boundary l h m
      t.meter = s.meter.setReserved j.account (min (s.meter.reserved[j.account] + c) 281474976710655) ∧
      (t.lane l).inFlight = x.inFlight ++ [entry] ∧ (t.lane l).sendPos = x.sendPos + 8 ∧
      (t.lane l).inSheet = (j.markAt (x.sendPos + 8)).isNone ∧ (t.lane l).state = x.state ∧
      (t.lane l).credits = x.credits ∧ (t.lane l).job = x.job ∧
      (t.lane l).lastToken = some (.sheetBegin (j.tag.setWidth 16) j.nextUnsent m) ∧
      (x.inFlight = [] → (t.lane l).stallTimer = some { start := s.time, length := match x.capture with
        | some k => max x.stallFloor (min (4 * k) x.stallCeiling)
        | none => x.stallCeiling } ∨ x.stallCeiling < x.stallFloor) ∧
      (x.inFlight ≠ [] → (t.lane l).stallTimer = x.stallTimer) ∧
      (t.job h.slot).nextUnsent = min (j.nextUnsent + 1) 4294967295 ∧ (t.job h.slot).inFlight = j.inFlight + 1 ∧
      (t.job h.slot).restart = j.restartAfter x.sendPos ∧ t.alerts = s.alerts ∧ t.link = s.link ∧
      t.store.dram = s.store.dram)

/-! ### Frames and tokens -/

/-- R156, R169, R170, R172: every well-formed command that the server can send is the command its frame is read as.
R171 and section 10.3: every token a printer sends is the command it is read as, on its lane. R156, R169, R171: bytes
whose check does not match the kind, the length and the body are a link error, and on a lane a discarded token. (A
frame of any code but the thirteen that the part takes is read as an unknown kind, log entry 48, DEDUCED.) -/
def Obligations.FramesAndTokensDecodeToTheirCommands : Prop :=
  (∀ (c : Instr) (bytes : List Byte), c.wellFormed = true → encodeFrame c = some bytes → decodeFrame bytes = c) ∧
  (∀ (c : Instr) (l : LaneId) (bytes : List Byte), encodeToken c = some (l, bytes) → decodeToken l bytes = c) ∧
  (∀ (kind : Byte) (body : List Byte) (check : Half) (l : LaneId), body.length < 65536 →
     let head := kind :: (halfBytes (BitVec.ofNat 16 body.length) ++ body)
     check ≠ crc16 head →
       decodeFrame (head ++ halfBytes check) = .linkError ∧ decodeToken l (head ++ halfBytes check) = .tokenDiscard l)

/-- R169, R170, R172 and section 10.3: frames and tokens of several families written out byte by byte from the tables,
with their checks; a wrong last byte is a link error. R158, R170, section 10.3: frames and tokens that leave the part,
written out in the same way: a CREDIT of 64, a REFUSE of an OPEN with DUPLICATE TAG, a JOB END, a POLL, a JOB BEGIN
(its resume flag: log entry 47, DEDUCED) and a SHEET BEGIN. -/
def Obligations.WrittenOutFrames : Prop :=
  decodeFrame [0x01, 0x00, 0x06, 0x00, 0x00, 0x00, 0x11, 0x02, 0x03, 0x70, 0x26] = .openJob 17 2 3 ∧
    decodeFrame [0x05, 0x00, 0x02, 0x07, 0x03, 0xF5, 0xCF] = .cancel { slot := 7, gen := 3 } ∧
    decodeFrame [0x10, 0x00, 0x07, 0x01, 0x05, 0x01, 0x02, 0x01, 0x00, 0x04, 0x79, 0x5A] =
      .setClass 5 1 [{ pool := 2, priority := 1, holdOnOpen := false, threshold := 4 }] ∧
    decodeFrame [0x12, 0x00, 0x03, 0x00, 0x02, 0x01, 0x72, 0x4B] = .meterRead 0 2 true ∧
    decodeFrame [0x20, 0x00, 0x03, 0x00, 0x05, 0x00, 0x5F, 0x31] = .ackAlert 0 5 0 ∧
    decodeFrame [0x30, 0x00, 0x03, 0x03, 0x04, 0x42, 0x47, 0x52] = .command 3 0x42 ∧
    decodeFrame [0x3F, 0x00, 0x00, 0x25, 0x08] = .reset ∧ decodeFrame [0x3F, 0x00, 0x00, 0x25, 0x09] = .linkError ∧
    decodeToken 4 [0x41, 0x00, 0x01, 0x09, 0x3E, 0xF0] = .status 4 9 ∧
    decodeToken 4 [0x43, 0x00, 0x00, 0x88, 0x61] = .sheetOut 4 ∧
    (UplinkFrame.credit 64).bytes = [0x81, 0x00, 0x01, 0x40, 0x54, 0xB9] ∧
    (UplinkFrame.response (.refuse 0x01 .duplicateTag (.tag 17))).bytes =
      [0x83, 0x00, 0x06, 0x01, 0x08, 0x00, 0x00, 0x00, 0x11, 0x6E, 0x3C] ∧
    (UplinkFrame.jobEnd { tag := 9, handle := { slot := 3, gen := 1 }, outcome := some (.failed .linkLost), stored := 2,
                          delivered := 1, spoiled := 1, charge := 256, split := true, forced := true,
                          truncated := false }).bytes =
      [0x86, 0x00, 0x1B, 0x00, 0x00, 0x00, 0x09, 0x03, 0x01, 0x02, 0x03, 0x00, 0x00, 0x00, 0x02, 0x00, 0x00, 0x00, 0x01,
        0x00, 0x00, 0x00, 0x01, 0x00, 0x00, 0x00, 0x00, 0x01, 0x00, 0x03, 0x58, 0x47] ∧
    LaneToken.poll.bytes = [0x01, 0x00, 0x00, 0xFB, 0xAC] ∧
    (LaneToken.jobBegin 17 true).bytes = [0x02, 0x00, 0x05, 0x00, 0x00, 0x00, 0x11, 0x01, 0xDD, 0xFA] ∧
    (LaneToken.sheetBegin 0x1234 5 { media := 3, sides := .two, colour := .full }).bytes =
      [0x04, 0x00, 0x09, 0x12, 0x34, 0x00, 0x00, 0x00, 0x05, 0x03, 0x02, 0x02, 0xD3, 0x3E]
end

