-- ==== Sys2Proof/Laws/State.lean ====
section
/-!
SUPPORT. One lemma per field per update: what the writers of State's records leave alone, and what a record reads after
it, or its neighbour, is written.
-/
namespace Sys2Proof.Machine

set_option Elab.async false

/-! ### Fields an update does not touch -/

@[simp] theorem State.setJob_pending (s : State) (i : Slot) (j : Job) : (s.setJob i j).pending = s.pending := rfl
@[simp] theorem State.setJob_time (s : State) (i : Slot) (j : Job) : (s.setJob i j).time = s.time := rfl
@[simp] theorem State.setJob_supply (s : State) (i : Slot) (j : Job) : (s.setJob i j).supply = s.supply := rfl
@[simp] theorem State.setJob_straps (s : State) (i : Slot) (j : Job) : (s.setJob i j).straps = s.straps := rfl
@[simp] theorem State.setJob_link (s : State) (i : Slot) (j : Job) : (s.setJob i j).link = s.link := rfl
@[simp] theorem State.setJob_intake (s : State) (i : Slot) (j : Job) : (s.setJob i j).intake = s.intake := rfl
@[simp] theorem State.setJob_store (s : State) (i : Slot) (j : Job) : (s.setJob i j).store = s.store := rfl
@[simp] theorem State.setJob_classes (s : State) (i : Slot) (j : Job) : (s.setJob i j).classes = s.classes := rfl
@[simp] theorem State.setJob_pools (s : State) (i : Slot) (j : Job) : (s.setJob i j).pools = s.pools := rfl
@[simp] theorem State.setJob_lanes (s : State) (i : Slot) (j : Job) : (s.setJob i j).lanes = s.lanes := rfl
@[simp] theorem State.setJob_meter (s : State) (i : Slot) (j : Job) : (s.setJob i j).meter = s.meter := rfl
@[simp] theorem State.setJob_alerts (s : State) (i : Slot) (j : Job) : (s.setJob i j).alerts = s.alerts := rfl
@[simp] theorem State.setJob_choices (s : State) (i : Slot) (j : Job) : (s.setJob i j).choices = s.choices := rfl

@[simp] theorem State.setLane_pending (s : State) (l : LaneId) (x : Lane) : (s.setLane l x).pending = s.pending := rfl
@[simp] theorem State.setLane_time (s : State) (l : LaneId) (x : Lane) : (s.setLane l x).time = s.time := rfl
@[simp] theorem State.setLane_supply (s : State) (l : LaneId) (x : Lane) : (s.setLane l x).supply = s.supply := rfl
@[simp] theorem State.setLane_straps (s : State) (l : LaneId) (x : Lane) : (s.setLane l x).straps = s.straps := rfl
@[simp] theorem State.setLane_link (s : State) (l : LaneId) (x : Lane) : (s.setLane l x).link = s.link := rfl
@[simp] theorem State.setLane_intake (s : State) (l : LaneId) (x : Lane) : (s.setLane l x).intake = s.intake := rfl
@[simp] theorem State.setLane_store (s : State) (l : LaneId) (x : Lane) : (s.setLane l x).store = s.store := rfl
@[simp] theorem State.setLane_jobs (s : State) (l : LaneId) (x : Lane) : (s.setLane l x).jobs = s.jobs := rfl
@[simp] theorem State.setLane_classes (s : State) (l : LaneId) (x : Lane) : (s.setLane l x).classes = s.classes := rfl
@[simp] theorem State.setLane_pools (s : State) (l : LaneId) (x : Lane) : (s.setLane l x).pools = s.pools := rfl
@[simp] theorem State.setLane_meter (s : State) (l : LaneId) (x : Lane) : (s.setLane l x).meter = s.meter := rfl
@[simp] theorem State.setLane_alerts (s : State) (l : LaneId) (x : Lane) : (s.setLane l x).alerts = s.alerts := rfl
@[simp] theorem State.setLane_choices (s : State) (l : LaneId) (x : Lane) : (s.setLane l x).choices = s.choices := rfl

@[simp] theorem State.setPool_pending (s : State) (p : PoolId) (x : PoolRow) : (s.setPool p x).pending = s.pending := rfl
@[simp] theorem State.setPool_time (s : State) (p : PoolId) (x : PoolRow) : (s.setPool p x).time = s.time := rfl
@[simp] theorem State.setPool_supply (s : State) (p : PoolId) (x : PoolRow) : (s.setPool p x).supply = s.supply := rfl
@[simp] theorem State.setPool_straps (s : State) (p : PoolId) (x : PoolRow) : (s.setPool p x).straps = s.straps := rfl
@[simp] theorem State.setPool_link (s : State) (p : PoolId) (x : PoolRow) : (s.setPool p x).link = s.link := rfl
@[simp] theorem State.setPool_intake (s : State) (p : PoolId) (x : PoolRow) : (s.setPool p x).intake = s.intake := rfl
@[simp] theorem State.setPool_store (s : State) (p : PoolId) (x : PoolRow) : (s.setPool p x).store = s.store := rfl
@[simp] theorem State.setPool_jobs (s : State) (p : PoolId) (x : PoolRow) : (s.setPool p x).jobs = s.jobs := rfl
@[simp] theorem State.setPool_classes (s : State) (p : PoolId) (x : PoolRow) : (s.setPool p x).classes = s.classes := rfl
@[simp] theorem State.setPool_lanes (s : State) (p : PoolId) (x : PoolRow) : (s.setPool p x).lanes = s.lanes := rfl
@[simp] theorem State.setPool_meter (s : State) (p : PoolId) (x : PoolRow) : (s.setPool p x).meter = s.meter := rfl
@[simp] theorem State.setPool_alerts (s : State) (p : PoolId) (x : PoolRow) : (s.setPool p x).alerts = s.alerts := rfl
@[simp] theorem State.setPool_choices (s : State) (p : PoolId) (x : PoolRow) : (s.setPool p x).choices = s.choices := rfl

@[simp] theorem State.answer_pending (s : State) (r : Response) : (s.answer r).pending = s.pending := rfl
@[simp] theorem State.answer_time (s : State) (r : Response) : (s.answer r).time = s.time := rfl
@[simp] theorem State.answer_supply (s : State) (r : Response) : (s.answer r).supply = s.supply := rfl
@[simp] theorem State.answer_straps (s : State) (r : Response) : (s.answer r).straps = s.straps := rfl
@[simp] theorem State.answer_intake (s : State) (r : Response) : (s.answer r).intake = s.intake := rfl
@[simp] theorem State.answer_store (s : State) (r : Response) : (s.answer r).store = s.store := rfl
@[simp] theorem State.answer_jobs (s : State) (r : Response) : (s.answer r).jobs = s.jobs := rfl
@[simp] theorem State.answer_classes (s : State) (r : Response) : (s.answer r).classes = s.classes := rfl
@[simp] theorem State.answer_pools (s : State) (r : Response) : (s.answer r).pools = s.pools := rfl
@[simp] theorem State.answer_lanes (s : State) (r : Response) : (s.answer r).lanes = s.lanes := rfl
@[simp] theorem State.answer_meter (s : State) (r : Response) : (s.answer r).meter = s.meter := rfl
@[simp] theorem State.answer_alerts (s : State) (r : Response) : (s.answer r).alerts = s.alerts := rfl
@[simp] theorem State.answer_choices (s : State) (r : Response) : (s.answer r).choices = s.choices := rfl

@[simp] theorem State.refuse_pending (s : State) (k : Byte) (c : RefusalCode) (i : RefuseItem) : (s.refuse k c i).pending = s.pending := rfl
@[simp] theorem State.refuse_time (s : State) (k : Byte) (c : RefusalCode) (i : RefuseItem) : (s.refuse k c i).time = s.time := rfl
@[simp] theorem State.refuse_supply (s : State) (k : Byte) (c : RefusalCode) (i : RefuseItem) : (s.refuse k c i).supply = s.supply := rfl
@[simp] theorem State.refuse_straps (s : State) (k : Byte) (c : RefusalCode) (i : RefuseItem) : (s.refuse k c i).straps = s.straps := rfl
@[simp] theorem State.refuse_intake (s : State) (k : Byte) (c : RefusalCode) (i : RefuseItem) : (s.refuse k c i).intake = s.intake := rfl
@[simp] theorem State.refuse_store (s : State) (k : Byte) (c : RefusalCode) (i : RefuseItem) : (s.refuse k c i).store = s.store := rfl
@[simp] theorem State.refuse_jobs (s : State) (k : Byte) (c : RefusalCode) (i : RefuseItem) : (s.refuse k c i).jobs = s.jobs := rfl
@[simp] theorem State.refuse_classes (s : State) (k : Byte) (c : RefusalCode) (i : RefuseItem) : (s.refuse k c i).classes = s.classes := rfl
@[simp] theorem State.refuse_pools (s : State) (k : Byte) (c : RefusalCode) (i : RefuseItem) : (s.refuse k c i).pools = s.pools := rfl
@[simp] theorem State.refuse_lanes (s : State) (k : Byte) (c : RefusalCode) (i : RefuseItem) : (s.refuse k c i).lanes = s.lanes := rfl
@[simp] theorem State.refuse_meter (s : State) (k : Byte) (c : RefusalCode) (i : RefuseItem) : (s.refuse k c i).meter = s.meter := rfl
@[simp] theorem State.refuse_alerts (s : State) (k : Byte) (c : RefusalCode) (i : RefuseItem) : (s.refuse k c i).alerts = s.alerts := rfl
@[simp] theorem State.refuse_choices (s : State) (k : Byte) (c : RefusalCode) (i : RefuseItem) : (s.refuse k c i).choices = s.choices := rfl

@[simp] theorem State.discardUntaken_pending (s : State) : (s.discardUntaken).pending = s.pending := rfl
@[simp] theorem State.discardUntaken_time (s : State) : (s.discardUntaken).time = s.time := rfl
@[simp] theorem State.discardUntaken_supply (s : State) : (s.discardUntaken).supply = s.supply := rfl
@[simp] theorem State.discardUntaken_straps (s : State) : (s.discardUntaken).straps = s.straps := rfl
@[simp] theorem State.discardUntaken_intake (s : State) : (s.discardUntaken).intake = s.intake := rfl
@[simp] theorem State.discardUntaken_store (s : State) : (s.discardUntaken).store = s.store := rfl
@[simp] theorem State.discardUntaken_jobs (s : State) : (s.discardUntaken).jobs = s.jobs := rfl
@[simp] theorem State.discardUntaken_classes (s : State) : (s.discardUntaken).classes = s.classes := rfl
@[simp] theorem State.discardUntaken_pools (s : State) : (s.discardUntaken).pools = s.pools := rfl
@[simp] theorem State.discardUntaken_lanes (s : State) : (s.discardUntaken).lanes = s.lanes := rfl
@[simp] theorem State.discardUntaken_meter (s : State) : (s.discardUntaken).meter = s.meter := rfl
@[simp] theorem State.discardUntaken_alerts (s : State) : (s.discardUntaken).alerts = s.alerts := rfl
@[simp] theorem State.discardUntaken_choices (s : State) : (s.discardUntaken).choices = s.choices := rfl

@[simp] theorem State.linkError_pending (s : State) : (s.linkError).pending = s.pending := rfl
@[simp] theorem State.linkError_time (s : State) : (s.linkError).time = s.time := rfl
@[simp] theorem State.linkError_supply (s : State) : (s.linkError).supply = s.supply := rfl
@[simp] theorem State.linkError_straps (s : State) : (s.linkError).straps = s.straps := rfl
@[simp] theorem State.linkError_intake (s : State) : (s.linkError).intake = s.intake := rfl
@[simp] theorem State.linkError_store (s : State) : (s.linkError).store = s.store := rfl
@[simp] theorem State.linkError_jobs (s : State) : (s.linkError).jobs = s.jobs := rfl
@[simp] theorem State.linkError_classes (s : State) : (s.linkError).classes = s.classes := rfl
@[simp] theorem State.linkError_pools (s : State) : (s.linkError).pools = s.pools := rfl
@[simp] theorem State.linkError_lanes (s : State) : (s.linkError).lanes = s.lanes := rfl
@[simp] theorem State.linkError_meter (s : State) : (s.linkError).meter = s.meter := rfl
@[simp] theorem State.linkError_alerts (s : State) : (s.linkError).alerts = s.alerts := rfl
@[simp] theorem State.linkError_choices (s : State) : (s.linkError).choices = s.choices := rfl

@[simp] theorem State.raiseLane_pending (s : State) (l : LaneId) (k : AlertKind) : (s.raiseLane l k).pending = s.pending := rfl
@[simp] theorem State.raiseLane_time (s : State) (l : LaneId) (k : AlertKind) : (s.raiseLane l k).time = s.time := rfl
@[simp] theorem State.raiseLane_supply (s : State) (l : LaneId) (k : AlertKind) : (s.raiseLane l k).supply = s.supply := rfl
@[simp] theorem State.raiseLane_straps (s : State) (l : LaneId) (k : AlertKind) : (s.raiseLane l k).straps = s.straps := rfl
@[simp] theorem State.raiseLane_link (s : State) (l : LaneId) (k : AlertKind) : (s.raiseLane l k).link = s.link := rfl
@[simp] theorem State.raiseLane_intake (s : State) (l : LaneId) (k : AlertKind) : (s.raiseLane l k).intake = s.intake := rfl
@[simp] theorem State.raiseLane_store (s : State) (l : LaneId) (k : AlertKind) : (s.raiseLane l k).store = s.store := rfl
@[simp] theorem State.raiseLane_jobs (s : State) (l : LaneId) (k : AlertKind) : (s.raiseLane l k).jobs = s.jobs := rfl
@[simp] theorem State.raiseLane_classes (s : State) (l : LaneId) (k : AlertKind) : (s.raiseLane l k).classes = s.classes := rfl
@[simp] theorem State.raiseLane_pools (s : State) (l : LaneId) (k : AlertKind) : (s.raiseLane l k).pools = s.pools := rfl
@[simp] theorem State.raiseLane_lanes (s : State) (l : LaneId) (k : AlertKind) : (s.raiseLane l k).lanes = s.lanes := rfl
@[simp] theorem State.raiseLane_meter (s : State) (l : LaneId) (k : AlertKind) : (s.raiseLane l k).meter = s.meter := rfl
@[simp] theorem State.raiseLane_choices (s : State) (l : LaneId) (k : AlertKind) : (s.raiseLane l k).choices = s.choices := rfl

@[simp] theorem State.raiseAccount_pending (s : State) (a : AccountId) (k : AlertKind) : (s.raiseAccount a k).pending = s.pending := rfl
@[simp] theorem State.raiseAccount_time (s : State) (a : AccountId) (k : AlertKind) : (s.raiseAccount a k).time = s.time := rfl
@[simp] theorem State.raiseAccount_supply (s : State) (a : AccountId) (k : AlertKind) : (s.raiseAccount a k).supply = s.supply := rfl
@[simp] theorem State.raiseAccount_straps (s : State) (a : AccountId) (k : AlertKind) : (s.raiseAccount a k).straps = s.straps := rfl
@[simp] theorem State.raiseAccount_link (s : State) (a : AccountId) (k : AlertKind) : (s.raiseAccount a k).link = s.link := rfl
@[simp] theorem State.raiseAccount_intake (s : State) (a : AccountId) (k : AlertKind) : (s.raiseAccount a k).intake = s.intake := rfl
@[simp] theorem State.raiseAccount_store (s : State) (a : AccountId) (k : AlertKind) : (s.raiseAccount a k).store = s.store := rfl
@[simp] theorem State.raiseAccount_jobs (s : State) (a : AccountId) (k : AlertKind) : (s.raiseAccount a k).jobs = s.jobs := rfl
@[simp] theorem State.raiseAccount_classes (s : State) (a : AccountId) (k : AlertKind) : (s.raiseAccount a k).classes = s.classes := rfl
@[simp] theorem State.raiseAccount_pools (s : State) (a : AccountId) (k : AlertKind) : (s.raiseAccount a k).pools = s.pools := rfl
@[simp] theorem State.raiseAccount_lanes (s : State) (a : AccountId) (k : AlertKind) : (s.raiseAccount a k).lanes = s.lanes := rfl
@[simp] theorem State.raiseAccount_meter (s : State) (a : AccountId) (k : AlertKind) : (s.raiseAccount a k).meter = s.meter := rfl
@[simp] theorem State.raiseAccount_choices (s : State) (a : AccountId) (k : AlertKind) : (s.raiseAccount a k).choices = s.choices := rfl

@[simp] theorem State.raiseSystem_pending (s : State) (k : AlertKind) : (s.raiseSystem k).pending = s.pending := rfl
@[simp] theorem State.raiseSystem_time (s : State) (k : AlertKind) : (s.raiseSystem k).time = s.time := rfl
@[simp] theorem State.raiseSystem_supply (s : State) (k : AlertKind) : (s.raiseSystem k).supply = s.supply := rfl
@[simp] theorem State.raiseSystem_straps (s : State) (k : AlertKind) : (s.raiseSystem k).straps = s.straps := rfl
@[simp] theorem State.raiseSystem_link (s : State) (k : AlertKind) : (s.raiseSystem k).link = s.link := rfl
@[simp] theorem State.raiseSystem_intake (s : State) (k : AlertKind) : (s.raiseSystem k).intake = s.intake := rfl
@[simp] theorem State.raiseSystem_store (s : State) (k : AlertKind) : (s.raiseSystem k).store = s.store := rfl
@[simp] theorem State.raiseSystem_jobs (s : State) (k : AlertKind) : (s.raiseSystem k).jobs = s.jobs := rfl
@[simp] theorem State.raiseSystem_classes (s : State) (k : AlertKind) : (s.raiseSystem k).classes = s.classes := rfl
@[simp] theorem State.raiseSystem_pools (s : State) (k : AlertKind) : (s.raiseSystem k).pools = s.pools := rfl
@[simp] theorem State.raiseSystem_lanes (s : State) (k : AlertKind) : (s.raiseSystem k).lanes = s.lanes := rfl
@[simp] theorem State.raiseSystem_meter (s : State) (k : AlertKind) : (s.raiseSystem k).meter = s.meter := rfl
@[simp] theorem State.raiseSystem_choices (s : State) (k : AlertKind) : (s.raiseSystem k).choices = s.choices := rfl

/-! ### Records read after a write -/

@[simp] theorem State.job_setJob_same (s : State) (i : Slot) (j : Job) : (s.setJob i j).job i = j := by
  simp [State.job, State.setJob]

theorem State.job_setJob_ne (s : State) {i k : Slot} (h : k ≠ i) (j : Job) : (s.setJob i j).job k = s.job k := by
  have h' : i.val ≠ k.val := fun e => h (Fin.ext e.symm)
  simp [State.job, State.setJob, h']

/-- A job record read after a job record is written. -/
theorem State.job_setJob (s : State) (i k : Slot) (j : Job) : (s.setJob i j).job k = if k = i then j else s.job k := by
  by_cases h : k = i
  · subst h; simp
  · simp [h, State.job_setJob_ne s h j]

@[simp] theorem State.lane_setLane_same (s : State) (l : LaneId) (x : Lane) : (s.setLane l x).lane l = x := by
  simp [State.lane, State.setLane]

theorem State.lane_setLane_ne (s : State) {l k : LaneId} (h : k ≠ l) (x : Lane) : (s.setLane l x).lane k = s.lane k := by
  have h' : l.val ≠ k.val := fun e => h (Fin.ext e.symm)
  simp [State.lane, State.setLane, h']

/-- A lane record read after a lane record is written. -/
theorem State.lane_setLane (s : State) (l k : LaneId) (x : Lane) :
    (s.setLane l x).lane k = if k = l then x else s.lane k := by
  by_cases h : k = l
  · subst h; simp
  · simp [h, State.lane_setLane_ne s h x]

@[simp] theorem State.pool_setPool_same (s : State) (p : PoolId) (x : PoolRow) : (s.setPool p x).pool p = x := by
  simp [State.pool, State.setPool]

theorem State.pool_setPool_ne (s : State) {p k : PoolId} (h : k ≠ p) (x : PoolRow) : (s.setPool p x).pool k = s.pool k := by
  have h' : p.val ≠ k.val := fun e => h (Fin.ext e.symm)
  simp [State.pool, State.setPool, h']

/-- A POOL row read after a POOL row is written. -/
theorem State.pool_setPool (s : State) (p k : PoolId) (x : PoolRow) :
    (s.setPool p x).pool k = if k = p then x else s.pool k := by
  by_cases h : k = p
  · subst h; simp
  · simp [h, State.pool_setPool_ne s h x]

/-- A zone read after a zone is written. -/
theorem AlertUnit.zone_setZone (u : AlertUnit) (z k : ZoneId) (x : Zone) :
    (u.setZone z x).zones[k] = if k = z then x else u.zones[k] := by
  by_cases h : k = z
  · subst h; simp [AlertUnit.setZone]
  · have h' : z.val ≠ k.val := fun e => h (Fin.ext e.symm)
    simp [AlertUnit.setZone, h, h']

/-! ### Other records' views -/

@[simp] theorem State.lane_setJob (s : State) (i : Slot) (j : Job) (l : LaneId) : (s.setJob i j).lane l = s.lane l := rfl
@[simp] theorem State.pool_setJob (s : State) (i : Slot) (j : Job) (p : PoolId) : (s.setJob i j).pool p = s.pool p := rfl
@[simp] theorem State.job_setLane (s : State) (l : LaneId) (x : Lane) (i : Slot) : (s.setLane l x).job i = s.job i := rfl
@[simp] theorem State.pool_setLane (s : State) (l : LaneId) (x : Lane) (p : PoolId) : (s.setLane l x).pool p = s.pool p := rfl
@[simp] theorem State.job_setPool (s : State) (p : PoolId) (x : PoolRow) (i : Slot) : (s.setPool p x).job i = s.job i := rfl
@[simp] theorem State.lane_setPool (s : State) (p : PoolId) (x : PoolRow) (l : LaneId) : (s.setPool p x).lane l = s.lane l := rfl
@[simp] theorem State.setJob_openList (s : State) (i : Slot) (j : Job) : (s.setJob i j).jobs.openList = s.jobs.openList := rfl
@[simp] theorem State.setJob_endList (s : State) (i : Slot) (j : Job) : (s.setJob i j).jobs.endList = s.jobs.endList := rfl
@[simp] theorem State.lane_raiseLane (s : State) (l k : LaneId) (a : AlertKind) : (s.raiseLane l a).lane k = s.lane k := rfl
@[simp] theorem State.job_raiseLane (s : State) (l : LaneId) (a : AlertKind) (i : Slot) : (s.raiseLane l a).job i = s.job i := rfl
@[simp] theorem State.lane_raiseAccount (s : State) (x : AccountId) (a : AlertKind) (k : LaneId) :
    (s.raiseAccount x a).lane k = s.lane k := rfl
@[simp] theorem State.job_raiseAccount (s : State) (x : AccountId) (a : AlertKind) (i : Slot) :
    (s.raiseAccount x a).job i = s.job i := rfl

/-- The response queue after a REFUSE. -/
@[simp] theorem State.refuse_responses (s : State) (k : Byte) (c : RefusalCode) (i : RefuseItem) :
    (s.refuse k c i).link.responses = s.link.responses ++ [.refuse k c i] := rfl

/-! ### Guards -/

/-- R137: in RUNNING a block acts. -/
theorem State.whenRunning_of (s : State) (act : State → State) (h : s.supply.halted = false) : s.whenRunning act = act s := by
  simp [State.whenRunning, h]

/-- R137: in HALTED no block acts. -/
theorem State.whenRunning_halted (s : State) (act : State → State) (h : s.supply.halted = true) : s.whenRunning act = s := by
  simp [State.whenRunning, h]

/-- R156, R166: a frame that arrives while the part runs and the link is UP is acted on. -/
theorem State.onFrame_of (s : State) (act : State → State) (h : s.supply.halted = false) (hu : s.link.up = true) :
    s.onFrame act = act s := by
  simp [State.onFrame, State.whenRunning, h, hu]

/-- R157: a request that finds room in the response queue is taken. -/
theorem State.onRequest_of (s : State) (act : State → State) (h : s.supply.halted = false) (hu : s.link.up = true)
    (hr : s.link.responses.length < 16) : s.onRequest act = act s := by
  simp [State.onRequest, State.onFrame, State.whenRunning, State.hasRoom, Config.responsePlaces, h, hu, hr]

/-- R157: a request that finds the response queue full is discarded untaken. -/
theorem State.onRequest_full (s : State) (act : State → State) (h : s.supply.halted = false) (hu : s.link.up = true)
    (hr : 16 ≤ s.link.responses.length) : s.onRequest act = s.discardUntaken := by
  have hr' : ¬s.link.responses.length < 16 := by omega
  simp [State.onRequest, State.onFrame, State.whenRunning, State.hasRoom, Config.responsePlaces, h, hu, hr']

/-- R156, R157: a request whose body fits its length and that finds room is taken. -/
theorem State.onSized_of (s : State) (act : State → State) (h : s.supply.halted = false) (hu : s.link.up = true)
    (hr : s.link.responses.length < 16) : s.onSized true act = act s := by
  simp [State.onSized, State.onFrame, State.whenRunning, State.hasRoom, Config.responsePlaces, h, hu, hr]

/-- R67: a token of a lane that is not OFFLINE is taken. -/
theorem State.onToken_of (s : State) (l : LaneId) (act : State → State) (h : s.supply.halted = false)
    (ho : (s.lane l).state ≠ .offline) : s.onToken l act = act s := by
  simp [State.onToken, State.whenRunning, h, ho]

/-- Every outcome of `onFrame` is the state itself or the frame's effect. -/
theorem State.onFrame_cases (s : State) (act : State → State) : s.onFrame act = s ∨ s.onFrame act = act s := by
  unfold State.onFrame State.whenRunning
  split
  · exact .inl rfl
  · dsimp only
    split
    · exact .inr rfl
    · exact .inl rfl

/-- Every outcome of `onRequest` is the state itself, a request discarded untaken, or its effect with room for an answer. -/
theorem State.onRequest_cases (s : State) (act : State → State) :
    s.onRequest act = s ∨ s.onRequest act = s.discardUntaken ∨
      (s.link.responses.length < 16 ∧ s.onRequest act = act s) := by
  unfold State.onRequest
  rcases s.onFrame_cases (fun s => if s.hasRoom then act s else s.discardUntaken) with h | h
  · exact .inl h
  · rw [h]
    split
    · rename_i hr
      exact .inr (.inr ⟨by simpa [State.hasRoom] using hr, rfl⟩)
    · exact .inr (.inl rfl)

/-- Every outcome of `onSized` is the state itself, a link error, a request discarded untaken, or its effect with room for
an answer. -/
theorem State.onSized_cases (s : State) (fits : Bool) (act : State → State) :
    s.onSized fits act = s ∨ s.onSized fits act = s.linkError ∨ s.onSized fits act = s.discardUntaken ∨
      (fits = true ∧ s.link.responses.length < 16 ∧ s.onSized fits act = act s) := by
  unfold State.onSized
  rcases s.onFrame_cases (fun s => if fits then (if s.hasRoom then act s else s.discardUntaken) else s.linkError) with h | h
  · exact .inl h
  · rw [h]
    split
    · rename_i hf
      split
      · rename_i hr
        exact .inr (.inr (.inr ⟨hf, by simpa [State.hasRoom] using hr, rfl⟩))
      · exact .inr (.inr (.inl rfl))
    · exact .inr (.inl rfl)

end Sys2Proof.Machine
end

