-- ==== Sys2Proof/Laws/Frames.lean ====
section
/-!
SUPPORT. What the shared operations on jobs, lanes, pools, blocks and credits leave alone: three frames, one inside the
other, and one lemma for each operation; that these operations keep the law on credits; and what a STATUS and a changed
display class do, in the words of the statements.
-/
namespace Sys2Proof.Machine

set_option Elab.async false

/-! ### What an operation leaves of a lane's row, and what it does to the alerts and the meters -/

/-- R70: the stored LANE CONFIG settings of a lane. -/
def Lane.row (l : Lane) : Option PoolId × ZoneId × Nat × Nat × Nat :=
  (l.pool, l.zone, l.stallCeiling, l.stallFloor, l.recoveryDelay)

/-- The ALERT UNIT has changed by the raising of alerts only (R142, R143). -/
inductive AlertUnit.Raises : AlertUnit → AlertUnit → Prop where
  | refl (u : AlertUnit) : u.Raises u
  | raise {u v : AlertUnit} (now : Time) (z : ZoneId) (src : AlertSource) (k : AlertKind) (h : u.Raises v) :
      u.Raises (v.raise now z src k)

theorem AlertUnit.Raises.trans {u v w : AlertUnit} (h : u.Raises v) (k : v.Raises w) : u.Raises w := by
  induction k with
  | refl => exact h
  | raise now z src kind _ ih => exact ih.raise now z src kind

/-- The METER UNIT has changed by reservations, deliveries, spoilages and counts only (R124 to R127). -/
inductive MeterUnit.Works : MeterUnit → MeterUnit → Prop where
  | refl (u : MeterUnit) : u.Works u
  | reserve {u v : MeterUnit} (a : AccountId) (c : Nat) (h : u.Works v) : u.Works (v.reserve a c)
  | deliver {u v : MeterUnit} (l : LaneId) (a : AccountId) (c : Nat) (h : u.Works v) : u.Works (v.deliver l a c)
  | spoil {u v : MeterUnit} (l : LaneId) (a : AccountId) (c : Nat) (h : u.Works v) : u.Works (v.spoil l a c)
  | jam {u v : MeterUnit} (l : LaneId) (h : u.Works v) : u.Works (v.countJam l)
  | stall {u v : MeterUnit} (l : LaneId) (h : u.Works v) : u.Works (v.countStall l)
  | phantom {u v : MeterUnit} (l : LaneId) (h : u.Works v) : u.Works (v.countPhantom l)

theorem MeterUnit.Works.trans {u v w : MeterUnit} (h : u.Works v) (k : v.Works w) : u.Works w := by
  induction k with
  | refl => exact h
  | reserve a c _ ih => exact ih.reserve a c
  | deliver l a c _ ih => exact ih.deliver l a c
  | spoil l a c _ ih => exact ih.spoil l a c
  | jam l _ ih => exact ih.jam l
  | stall l _ ih => exact ih.stall l
  | phantom l _ ih => exact ih.phantom l

/-! ### The frames -/

/-- What every shared operation leaves alone: the queue, the time, the supplies, the straps, the link, the watermarks, the
stored bytes, the CLASS rows, the settings of pools and lanes, and the generations of the slots. -/
structure Kept (s t : State) : Prop where
  pending : t.pending = s.pending
  time : t.time = s.time
  supply : t.supply = s.supply
  straps : t.straps = s.straps
  link : t.link = s.link
  low : t.intake.low = s.intake.low
  high : t.intake.high = s.intake.high
  dram : t.store.dram = s.store.dram
  blockCount : t.store.blockCount = s.store.blockCount
  classes : t.classes = s.classes
  choices : t.choices = s.choices
  gens : ∀ i : Slot, (t.job i).gen = (s.job i).gen
  pools : ∀ p : PoolId, (t.pool p).threshold = (s.pool p).threshold ∧ (t.pool p).fallback = (s.pool p).fallback
  rows : ∀ l : LaneId, (t.lane l).row = (s.lane l).row

theorem Kept.refl (s : State) : Kept s s :=
  ⟨rfl, rfl, rfl, rfl, rfl, rfl, rfl, rfl, rfl, rfl, rfl, fun _ => rfl, fun _ => ⟨rfl, rfl⟩, fun _ => rfl⟩

theorem Kept.trans {s t u : State} (h : Kept s t) (k : Kept t u) : Kept s u :=
  ⟨k.1.trans h.1, k.2.trans h.2, k.3.trans h.3, k.4.trans h.4, k.5.trans h.5, k.6.trans h.6, k.7.trans h.7,
    k.8.trans h.8, k.9.trans h.9, k.10.trans h.10, k.11.trans h.11, fun i => (k.12 i).trans (h.12 i),
    fun p => ⟨(k.13 p).1.trans (h.13 p).1, (k.13 p).2.trans (h.13 p).2⟩, fun l => (k.14 l).trans (h.14 l)⟩

/-- Nothing but jobs, lanes and rotors differs. -/
structure KeptByDispatch (s t : State) : Prop extends Kept s t where
  intake : t.intake = s.intake
  store : t.store = s.store
  meter : t.meter = s.meter
  alerts : t.alerts = s.alerts

/-- Nothing but jobs, lanes, rotors, the free-block list, the intake state and the credits differs, and the last three
keep the law on credits (R41). -/
structure KeptByBlocks (s t : State) : Prop extends Kept s t where
  law : s.IntakeLaw → t.IntakeLaw
  meter : t.meter = s.meter
  alerts : t.alerts = s.alerts

/-- As `KeptByBlocks`, and alerts may be raised and the METER UNIT reserve, deliver, spoil and count. -/
structure KeptByLanes (s t : State) : Prop extends Kept s t where
  law : s.IntakeLaw → t.IntakeLaw
  meter : s.meter.Works t.meter
  alerts : s.alerts.Raises t.alerts

theorem KeptByDispatch.refl (s : State) : KeptByDispatch s s := ⟨.refl s, rfl, rfl, rfl, rfl⟩

theorem KeptByDispatch.trans {s t u : State} (h : KeptByDispatch s t) (k : KeptByDispatch t u) : KeptByDispatch s u :=
  ⟨h.toKept.trans k.toKept, k.2.trans h.2, k.3.trans h.3, k.4.trans h.4, k.5.trans h.5⟩

theorem KeptByBlocks.refl (s : State) : KeptByBlocks s s := ⟨.refl s, id, rfl, rfl⟩

theorem KeptByBlocks.trans {s t u : State} (h : KeptByBlocks s t) (k : KeptByBlocks t u) : KeptByBlocks s u :=
  ⟨h.toKept.trans k.toKept, k.2 ∘ h.2, k.3.trans h.3, k.4.trans h.4⟩

theorem KeptByLanes.refl (s : State) : KeptByLanes s s := ⟨.refl s, id, .refl _, .refl _⟩

theorem KeptByLanes.trans {s t u : State} (h : KeptByLanes s t) (k : KeptByLanes t u) : KeptByLanes s u :=
  ⟨h.toKept.trans k.toKept, k.2 ∘ h.2, h.3.trans k.3, h.4.trans k.4⟩

theorem KeptByDispatch.blocks {s t : State} (h : KeptByDispatch s t) : KeptByBlocks s t :=
  ⟨h.toKept, fun k => by rw [State.IntakeLaw, h.store, h.intake]; exact k, h.meter, h.alerts⟩

theorem KeptByBlocks.lanes {s t : State} (h : KeptByBlocks s t) : KeptByLanes s t :=
  ⟨h.toKept, h.law, h.meter ▸ .refl _, h.alerts ▸ .refl _⟩

theorem KeptByDispatch.lanes {s t : State} (h : KeptByDispatch s t) : KeptByLanes s t := h.blocks.lanes

/-! ### Writers -/

@[simp] theorem Lane.enter_row (l : Lane) (now : Time) (st : LaneState) : (l.enter now st).row = l.row := by
  cases st <;> rfl

@[simp] theorem Lane.clearJob_row (l : Lane) : l.clearJob.row = l.row := rfl

@[simp] theorem Lane.start_row (l : Lane) (now : Time) (j : Job) : (l.start now j).row = l.row := by
  unfold Lane.start
  dsimp only
  repeat' split
  all_goals rfl

@[simp] theorem Lane.leave_row (l : Lane) (now : Time) : (l.leave now).row = l.row := by
  unfold Lane.leave
  dsimp only
  repeat' split
  all_goals rfl

@[simp] theorem Lane.lose_row (l : Lane) (now : Time) : (l.lose now).row = l.row := by
  unfold Lane.lose
  simp only [Lane.enter_row]
  rfl

@[simp] theorem Lane.restall_row (l : Lane) (now : Time) : (l.restall now).row = l.row := by
  unfold Lane.restall
  split <;> rfl

@[simp] theorem Lane.begin_row (l : Lane) (now : Time) (j : Job) (m : Mark) (e : InFlight) :
    (l.begin now j m e).row = l.row := by
  unfold Lane.begin
  dsimp only
  split <;> rfl

@[simp] theorem Lane.unpause_row (l : Lane) (now : Time) (r : Resume) : (l.unpause now r).row = l.row := by
  unfold Lane.unpause
  simp only [Lane.restall_row]
  cases r <;> rfl

@[simp] theorem Lane.measure_row (l : Lane) (now : Time) : (l.measure now).row = l.row := rfl

theorem State.setJob_kept (s : State) (i : Slot) (j : Job) (h : j.gen = (s.job i).gen := by rfl) :
    KeptByDispatch s (s.setJob i j) :=
  ⟨⟨rfl, rfl, rfl, rfl, rfl, rfl, rfl, rfl, rfl, rfl, rfl, fun k => by
    rw [State.job_setJob]
    split
    · rename_i e; rw [e, h]
    · rfl, fun _ => ⟨rfl, rfl⟩, fun _ => rfl⟩, rfl, rfl, rfl, rfl⟩

theorem State.setLane_kept (s : State) (l : LaneId) (x : Lane) (h : x.row = (s.lane l).row := by
      first | rfl | (simp only [Lane.start_row, Lane.leave_row, Lane.lose_row, Lane.begin_row, Lane.unpause_row,
        Lane.restall_row, Lane.measure_row]; try rfl)) :
    KeptByDispatch s (s.setLane l x) :=
  ⟨⟨rfl, rfl, rfl, rfl, rfl, rfl, rfl, rfl, rfl, rfl, rfl, fun _ => rfl, fun _ => ⟨rfl, rfl⟩, fun k => by
    rw [State.lane_setLane]
    split
    · rename_i e; rw [e, h]
    · rfl⟩, rfl, rfl, rfl, rfl⟩

/-- R57: a rotor moves. -/
theorem State.setRotor_kept (s : State) (p : PoolId) (r : LaneId) :
    KeptByDispatch s (s.setPool p { s.pool p with rotor := r }) :=
  ⟨⟨rfl, rfl, rfl, rfl, rfl, rfl, rfl, rfl, rfl, rfl, rfl, fun _ => rfl, fun k => by
    rw [State.pool_setPool]
    split
    · rename_i e; rw [e]; exact ⟨rfl, rfl⟩
    · exact ⟨rfl, rfl⟩, fun _ => rfl⟩, rfl, rfl, rfl, rfl⟩

/-- A change of the lists of the JOB TABLE alone. -/
theorem KeptByDispatch.of_lists (s : State) (xs ys : List Slot) :
    KeptByDispatch s { s with jobs := { s.jobs with openList := xs, endList := ys } } :=
  ⟨⟨rfl, rfl, rfl, rfl, rfl, rfl, rfl, rfl, rfl, rfl, rfl, fun _ => rfl, fun _ => ⟨rfl, rfl⟩, fun _ => rfl⟩, rfl, rfl, rfl,
    rfl⟩

/-- Raising an alert changes no office zone. -/
@[simp] theorem AlertUnit.raise_office (u : AlertUnit) (now : Time) (z : ZoneId) (src : AlertSource) (k : AlertKind) :
    (u.raise now z src k).office = u.office := by
  unfold AlertUnit.raise AlertUnit.create AlertUnit.displace AlertUnit.touched AlertUnit.recompute AlertUnit.setZone
  repeat' split
  all_goals rfl

theorem State.raiseLane_kept (s : State) (l : LaneId) (k : AlertKind) : KeptByLanes s (s.raiseLane l k) :=
  ⟨⟨rfl, rfl, rfl, rfl, rfl, rfl, rfl, rfl, rfl, rfl, rfl, fun _ => rfl, fun _ => ⟨rfl, rfl⟩, fun _ => rfl⟩, id, .refl _,
    (AlertUnit.Raises.refl s.alerts).raise ..⟩

theorem State.raiseAccount_kept (s : State) (a : AccountId) (k : AlertKind) : KeptByLanes s (s.raiseAccount a k) :=
  ⟨⟨rfl, rfl, rfl, rfl, rfl, rfl, rfl, rfl, rfl, rfl, rfl, fun _ => rfl, fun _ => ⟨rfl, rfl⟩, fun _ => rfl⟩, id, .refl _,
    (AlertUnit.Raises.refl s.alerts).raise ..⟩

/-- Work of the METER UNIT alone. -/
theorem KeptByLanes.of_meter (s : State) (u : MeterUnit) (h : s.meter.Works u) : KeptByLanes s { s with meter := u } :=
  ⟨⟨rfl, rfl, rfl, rfl, rfl, rfl, rfl, rfl, rfl, rfl, rfl, fun _ => rfl, fun _ => ⟨rfl, rfl⟩, fun _ => rfl⟩, id, h, .refl _⟩

/-- A left fold of operations that keep the frame keeps it. -/
theorem KeptByDispatch.foldl {α : Type} (f : State → α → State) (h : ∀ s a, KeptByDispatch s (f s a)) (xs : List α)
    (s : State) : KeptByDispatch s (xs.foldl f s) := by
  induction xs generalizing s with
  | nil => exact .refl s
  | cons x xs ih => exact (h s x).trans (ih _)

theorem KeptByBlocks.foldl {α : Type} (f : State → α → State) (h : ∀ s a, KeptByBlocks s (f s a)) (xs : List α)
    (s : State) : KeptByBlocks s (xs.foldl f s) := by
  induction xs generalizing s with
  | nil => exact .refl s
  | cons x xs ih => exact (h s x).trans (ih _)

theorem KeptByLanes.foldl {α : Type} (f : State → α → State) (h : ∀ s a, KeptByLanes s (f s a)) (xs : List α)
    (s : State) : KeptByLanes s (xs.foldl f s) := by
  induction xs generalizing s with
  | nil => exact .refl s
  | cons x xs ih => exact (h s x).trans (ih _)

/-! ### Credits and blocks -/

/-- R41: a grant evaluation changes the credits only. -/
theorem State.evalGrant_parts (s : State) : Kept s s.evalGrant ∧ s.evalGrant.meter = s.meter ∧
    s.evalGrant.alerts = s.alerts ∧ s.evalGrant.store = s.store ∧ s.evalGrant.intake.state = s.intake.state := by
  unfold State.evalGrant IntakeUnit.grant
  repeat' split
  all_goals exact ⟨⟨rfl, rfl, rfl, rfl, rfl, rfl, rfl, rfl, rfl, rfl, rfl, fun _ => rfl, fun _ => ⟨rfl, rfl⟩, fun _ => rfl⟩,
    rfl, rfl, rfl, rfl⟩

/-- R41: a grant leaves outstanding credits at most free blocks − low watermark, and at most 64. -/
theorem State.evalGrant_outstanding (s : State) : s.evalGrant.intake.outstanding = s.intake.outstanding ∨
    s.evalGrant.intake.outstanding ≤ 64 ∧ s.evalGrant.intake.outstanding ≤ s.store.free.length := by
  have h1 : s.intake.grantable s.freeBlocks ≤ 64 - s.intake.outstanding := Nat.min_le_left ..
  have h2 : s.intake.grantable s.freeBlocks ≤ s.store.free.length - s.intake.low - s.intake.outstanding :=
    Nat.min_le_right ..
  unfold State.evalGrant IntakeUnit.grant
  split
  · rename_i h
    have hg := h.2.2
    simp only [IntakeUnit.grants, Config.grantStep, Bool.or_eq_true, Bool.and_eq_true, decide_eq_true_eq] at hg
    generalize s.intake.grantable s.freeBlocks = g at *
    split <;> right <;> dsimp only <;> omega
  · exact .inl rfl

/-- R42, R165: a grant evaluation keeps the law on the counts of CREDIT frames. -/
theorem State.evalGrant_creditLaw (s : State) (h : s.CreditLaw) : s.evalGrant.CreditLaw := by
  obtain ⟨hw, hk, hf, hz⟩ := h
  unfold State.evalGrant
  split
  · rename_i hg
    have g1 : 1 ≤ s.intake.grantable s.freeBlocks := by
      have := hg.2.2
      simp only [IntakeUnit.grants, Config.grantStep, Bool.or_eq_true, Bool.and_eq_true, decide_eq_true_eq] at this
      omega
    generalize s.intake.grantable s.freeBlocks = g at g1
    unfold IntakeUnit.grant
    split
    · rename_i n hn
      have hx : s.link.tx = some (.credit n) := by
        unfold LinkPort.creditInFlight at hn
        split at hn <;> simp_all
      have := hf n hx
      refine ⟨hw, ?_, fun m hm => ?_, fun _ no => absurd hx (no n)⟩
      · show satAdd (64 - n) s.intake.kept g ≤ 64
        unfold satAdd; split <;> omega
      · have e : m = n := by have := hm.symm.trans hx; simpa using this
        subst e
        refine ⟨this.1, ?_⟩
        show m + satAdd (64 - m) s.intake.kept g ≤ 64
        unfold satAdd; split <;> omega
    · refine ⟨fun m hm => ?_, hk, hf, hz⟩
      have e : satAdd 64 (s.intake.waiting.getD 0) g = m := Option.some.inj hm
      unfold satAdd at e
      split at e <;> omega
  · exact ⟨hw, hk, hf, hz⟩

theorem State.evalGrant_kept (s : State) : KeptByBlocks s s.evalGrant := by
  obtain ⟨k, hm, ha, hs, hst⟩ := s.evalGrant_parts
  refine ⟨k, fun ⟨h1, h2, h3, h4, h5, h6, h7⟩ => ?_, hm, ha⟩
  refine ⟨hs ▸ h1, by rw [k.low, k.high]; exact h2, by rw [k.high, hs]; exact h3, by rw [hst, k.low, hs]; exact h4,
    by rw [hst, k.high, hs]; exact h5, ?_⟩
  rw [hs]
  rcases s.evalGrant_outstanding with h | h
  · rw [h]; exact ⟨h6, h7⟩
  · exact ⟨h.2, h.1⟩

/-- R39, R40, R41: the law on credits but for the intake state, which a check brings into line. -/
def State.IntakeCore (s : State) : Prop :=
  s.store.blockCount ∈ [8192, 16384, 32768, 65536] ∧ s.intake.low < s.intake.high ∧
    s.intake.high ≤ s.store.blockCount ∧ s.intake.outstanding ≤ s.store.free.length ∧ s.intake.outstanding ≤ 64

theorem State.IntakeLaw.core {s : State} (h : s.IntakeLaw) : s.IntakeCore := ⟨h.1, h.2.1, h.2.2.1, h.2.2.2.2.2⟩

/-- A change of the intake state alone. -/
theorem Kept.of_state (s : State) (x : IntakeState) : Kept s { s with intake := { s.intake with state := x } } :=
  ⟨rfl, rfl, rfl, rfl, rfl, rfl, rfl, rfl, rfl, rfl, rfl, fun _ => rfl, fun _ => ⟨rfl, rfl⟩, fun _ => rfl⟩

/-- A change of the free-block list alone. -/
theorem Kept.of_free (s : State) (x : List Nat) : Kept s { s with store := { s.store with free := x } } :=
  ⟨rfl, rfl, rfl, rfl, rfl, rfl, rfl, rfl, rfl, rfl, rfl, fun _ => rfl, fun _ => ⟨rfl, rfl⟩, fun _ => rfl⟩

/-- R39: what the state's return to RUN leaves alone, and that it keeps the law but for it. -/
theorem State.reopenIntake_parts (s : State) : Kept s s.reopenIntake ∧ s.reopenIntake.meter = s.meter ∧
    s.reopenIntake.alerts = s.alerts ∧ s.reopenIntake.store = s.store ∧
    s.reopenIntake.intake.outstanding = s.intake.outstanding := by
  unfold State.reopenIntake
  split
  · exact ⟨Kept.of_state s .run, rfl, rfl, rfl, rfl⟩
  · exact ⟨.refl s, rfl, rfl, rfl, rfl⟩

/-- R26: a block is appended to the free-block list, and no other field of the part changes but the credits and the intake
state. -/
theorem State.returnBlock_kept (s : State) (b : Nat) : KeptByBlocks s (s.returnBlock b) := by
  have p := State.reopenIntake_parts { s with store := { s.store with free := s.store.free ++ [b] } }
  have g := State.evalGrant_kept
    ({ s with store := { s.store with free := s.store.free ++ [b] } } : State).reopenIntake
  refine ⟨((Kept.of_free s _).trans p.1).trans g.toKept, fun h => g.law ?_, g.meter.trans p.2.1, g.alerts.trans p.2.2.1⟩
  obtain ⟨h1, h2, h3, h4, h5, h6, h7⟩ := h
  unfold State.reopenIntake
  split
  · rename_i e
    refine ⟨h1, h2, h3, fun _ => ?_, fun e => by simp at e, ?_, h7⟩
    · have := e.2
      simp only [State.freeBlocks] at this
      show s.intake.low < (s.store.free ++ [b]).length
      have h2' : s.intake.low < s.intake.high := h2
      have : s.intake.high ≤ (s.store.free ++ [b]).length := this
      omega
    · show s.intake.outstanding ≤ (s.store.free ++ [b]).length
      simp only [List.length_append, List.length_singleton]
      omega
  · rename_i e
    refine ⟨h1, h2, h3, fun hr => ?_, fun hs => ?_, ?_, h7⟩
    · have := h4 hr
      show s.intake.low < (s.store.free ++ [b]).length
      simp only [List.length_append, List.length_singleton]
      omega
    · exact Nat.lt_of_not_le fun hl => e ⟨hs, hl⟩
    · show s.intake.outstanding ≤ (s.store.free ++ [b]).length
      simp only [List.length_append, List.length_singleton]
      omega

theorem State.returnBlocks_kept (s : State) (bs : List Nat) : KeptByBlocks s (s.returnBlocks bs) :=
  KeptByBlocks.foldl _ State.returnBlock_kept bs s

theorem State.release_kept (s : State) (i : Slot) : KeptByBlocks s (s.release i) :=
  (State.setJob_kept ..).blocks.trans (State.returnBlocks_kept _ _)

theorem State.releaseMoved_kept (s : State) (l : LaneId) (i : Slot) (old : Nat) :
    KeptByBlocks s (s.releaseMoved l i old) := by
  unfold State.releaseMoved
  split
  · exact State.release_kept _ _
  · exact .refl s

/-! ### Dispatch -/

/-- R57, R61: an assignment changes a job, a lane and a rotor, and may release blocks (R37). -/
theorem State.assign_kept (s : State) (p : PoolId) (i : Slot) (l : LaneId) : KeptByBlocks s (s.assign p i l) := by
  unfold State.assign
  refine KeptByBlocks.trans ?_ (State.releaseMoved_kept _ _ _ _)
  refine (((s.setJob_kept i ((s.job i).assign l)).trans (State.setLane_kept _ l _ ?_)).trans
    (State.setRotor_kept _ p (l + 1))).blocks
  rw [Lane.start_row, State.lane_setJob]
  rfl

theorem State.passRounds_kept (p : PoolId) (n : Nat) (s : State) : KeptByBlocks s (s.passRounds p n) := by
  induction n generalizing s with
  | zero => exact .refl s
  | succ n ih =>
    unfold State.passRounds
    split
    · exact .refl s
    · split
      · exact .refl s
      · exact (State.assign_kept ..).trans (ih _)

/-- R58: a dispatch pass changes jobs, lanes, rotors and blocks only. -/
theorem State.pass_kept (s : State) (p : PoolId) : KeptByBlocks s (s.pass p) := State.passRounds_kept p 16 s

/-- R58, R59: the passes of an event change jobs, lanes, rotors and blocks only. -/
theorem State.dispatch_kept (s : State) : KeptByBlocks s s.dispatch := KeptByBlocks.foldl _ State.pass_kept _ s

theorem State.makeReady_kept (s : State) (i : Slot) : KeptByBlocks s (s.makeReady i) :=
  (s.setJob_kept _ _).blocks.trans (State.dispatch_kept _)

theorem State.forcedStart_kept (s : State) : KeptByBlocks s s.forcedStart := by
  unfold State.forcedStart
  split
  · exact .refl s
  · split
    · exact (State.setJob_kept ..).blocks.trans (State.makeReady_kept _ _)
    · exact .refl s

theorem State.checkFallen_kept (s b : State) : KeptByBlocks s (s.checkFallen b) := by
  unfold State.checkFallen
  split
  · exact State.forcedStart_kept _
  · exact .refl _

/-! ### The intake state -/

theorem State.checkIntake_parts (s : State) : Kept s s.checkIntake ∧ s.checkIntake.meter = s.meter ∧
    s.checkIntake.alerts = s.alerts := by
  unfold State.checkIntake
  repeat' split
  · have k := State.forcedStart_kept { s with intake := { s.intake with state := .stop } }
    exact ⟨(Kept.of_state s .stop).trans k.toKept, k.meter, k.alerts⟩
  · exact ⟨.refl s, rfl, rfl⟩
  · obtain ⟨k, hm, ha, hs, _⟩ := s.reopenIntake_parts
    have g := State.evalGrant_kept s.reopenIntake
    exact ⟨k.trans g.toKept, g.meter.trans hm, g.alerts.trans ha⟩
  · exact ⟨.refl s, rfl, rfl⟩

/-- R39: after a check the intake state follows the free-block count. -/
theorem State.checkIntake_law (s : State) (h : s.IntakeCore) : s.checkIntake.IntakeLaw := by
  obtain ⟨h1, h2, h3, h6, h7⟩ := h
  unfold State.checkIntake
  split
  · rename_i hr
    split
    · rename_i hf
      have k := State.forcedStart_kept { s with intake := { s.intake with state := .stop } }
      refine k.law ⟨h1, h2, h3, fun e => by simp at e, fun _ => ?_, h6, h7⟩
      simp only [State.freeBlocks] at hf
      show s.store.free.length < s.intake.high
      omega
    · rename_i hf
      simp only [State.freeBlocks] at hf
      exact ⟨h1, h2, h3, fun _ => by omega, fun e => (by rw [hr] at e; cases e), h6, h7⟩
  · rename_i hr
    split
    · rename_i hf
      simp only [State.freeBlocks] at hf
      unfold State.reopenIntake
      rw [if_pos ⟨hr, hf⟩]
      refine (State.evalGrant_kept _).law ⟨h1, h2, h3, fun _ => ?_, fun e => by simp at e, h6, h7⟩
      show s.intake.low < s.store.free.length
      omega
    · rename_i hf
      simp only [State.freeBlocks] at hf
      exact ⟨h1, h2, h3, fun e => (by rw [hr] at e; cases e), fun _ => by omega, h6, h7⟩

theorem State.checkIntake_kept (s : State) : KeptByBlocks s s.checkIntake :=
  ⟨s.checkIntake_parts.1, fun h => s.checkIntake_law h.core, s.checkIntake_parts.2.1, s.checkIntake_parts.2.2⟩

/-! ### Ending -/

theorem State.endJob_kept (s : State) (i : Slot) (o : JobOutcome) : KeptByBlocks s (s.endJob i o) :=
  ((State.setJob_kept ..).blocks.trans (State.returnBlocks_kept _ _)).trans (KeptByDispatch.of_lists _ _ _).blocks

theorem State.endNow_kept (s : State) (i : Slot) (o : JobOutcome) : KeptByBlocks s (s.endNow i o) :=
  (State.endJob_kept ..).trans (State.checkFallen_kept _ _)

/-! ### Lanes and their jobs -/

theorem State.settleJob_kept (s : State) (i : Slot) (r : Option StopRequest) (loss : Bool) :
    KeptByBlocks s (s.settleJob i r loss) := by
  unfold State.settleJob
  split
  · exact State.endJob_kept ..
  · exact State.endJob_kept ..
  all_goals exact (State.setJob_kept ..).blocks.trans (State.release_kept _ _)

theorem State.raiseHold_kept (s : State) (i : Slot) (r : Option StopRequest) : KeptByLanes s (s.raiseHold i r) := by
  unfold State.raiseHold
  split
  · exact State.raiseAccount_kept _ _ _
  · exact .refl s

theorem State.complete_kept (s : State) (i : Slot) (l : LaneId) : KeptByBlocks s (s.complete i l) :=
  (State.endJob_kept ..).trans
    (((State.setLane_kept _ _ _).blocks.trans (State.dispatch_kept _)).trans (State.checkFallen_kept _ _))

theorem State.applyStop_kept (s : State) (l : LaneId) : KeptByLanes s (s.applyStop l) := by
  unfold State.applyStop
  split
  · exact .refl s
  · split
    · exact .refl s
    · exact ((State.settleJob_kept ..).lanes.trans (State.raiseHold_kept _ _ _)).trans
        (((State.setLane_kept _ _ _).blocks.trans (State.dispatch_kept _)).trans (State.checkFallen_kept _ _)).lanes

theorem State.drain_kept (s : State) (l : LaneId) : KeptByLanes s (s.drain l) := by
  unfold State.drain
  dsimp only
  split
  · exact (State.setLane_kept ..).lanes.trans (State.applyStop_kept _ _)
  · exact (State.setLane_kept ..).lanes

theorem State.endOfContent_kept (s : State) (l : LaneId) (i : Slot) : KeptByLanes s (s.endOfContent l i) := by
  unfold State.endOfContent
  dsimp only
  repeat' split
  · exact (State.setLane_kept ..).lanes.trans (State.complete_kept _ _ _).lanes
  · exact (State.setLane_kept ..).lanes.trans (State.drain_kept _ _)
  · exact (State.setLane_kept ..).lanes

theorem State.wake_kept (s : State) (l : LaneId) (i : Slot) : KeptByLanes s (s.wake l i) := by
  unfold State.wake
  repeat' split
  all_goals first
    | exact .refl s
    | exact State.endOfContent_kept _ _ _
    | exact (State.setLane_kept ..).lanes

theorem State.reachMark_kept (s : State) (l : LaneId) (i : Slot) : KeptByDispatch s (s.reachMark l i) :=
  State.setLane_kept ..

theorem State.tellLane_kept (s : State) (i : Slot) : KeptByLanes s (s.tellLane i) := by
  unfold State.tellLane
  split
  · exact (State.reachMark_kept _ _ _).lanes.trans (State.wake_kept _ _ _)
  · exact .refl s

theorem State.meetStop_kept (s : State) (l : LaneId) (i : Slot) : KeptByLanes s (s.meetStop l i) := by
  unfold State.meetStop
  repeat' split
  all_goals first
    | exact .refl s
    | exact State.applyStop_kept _ _
    | exact State.drain_kept _ _
    | exact State.wake_kept _ _ _

theorem State.requestStop_kept (s : State) (i : Slot) (r : StopRequest) : KeptByLanes s (s.requestStop i r) := by
  unfold State.requestStop
  dsimp only
  split
  · exact (State.setJob_kept ..).lanes.trans (State.meetStop_kept _ _ _)
  · exact (State.setJob_kept ..).lanes

theorem State.fail_kept (s : State) (i : Slot) (why : FailReason) : KeptByLanes s (s.fail i why) := by
  unfold State.fail
  dsimp only
  split
  · exact ((State.setJob_kept ..).blocks.trans (State.endNow_kept _ _ _)).lanes
  · exact ((State.setJob_kept ..).blocks.trans (State.endNow_kept _ _ _)).lanes
  · exact ((State.setJob_kept ..).blocks.trans (State.endNow_kept _ _ _)).lanes
  · exact (State.setJob_kept ..).lanes.trans (State.requestStop_kept _ _ _)
  · exact .refl s
  · exact .refl s

theorem State.spoilOne_kept (l : LaneId) (s : State) (e : InFlight) : KeptByLanes s (State.spoilOne l s e) :=
  (KeptByLanes.of_meter s (s.meter.spoil l e.account e.charge) (.spoil _ _ _ (.refl _))).trans (State.setJob_kept ..).lanes

theorem State.spoil_kept (s : State) (l : LaneId) : KeptByLanes s (s.spoil l) := by
  unfold State.spoil
  split
  · exact .refl s
  · exact ((KeptByLanes.foldl _ (State.spoilOne_kept l) _ s).trans (State.setLane_kept ..).lanes).trans
      (State.setJob_kept ..).lanes

theorem State.jamJob_kept (s : State) (l : LaneId) (i : Slot) : KeptByLanes s (s.jamJob l i) := by
  unfold State.jamJob
  generalize hx : s.spoil l = t
  have h : KeptByLanes s t := hx ▸ State.spoil_kept s l
  dsimp only
  refine KeptByLanes.trans ?_ (State.applyStop_kept _ _)
  refine KeptByLanes.trans ?_ (State.releaseMoved_kept _ _ _ _).lanes
  exact h.trans (State.setLane_kept ..).lanes

theorem State.jam_kept (s : State) (l : LaneId) : KeptByLanes s (s.jam l) := by
  unfold State.jam
  repeat' split
  all_goals first
    | with_reducible exact .refl s
    | with_reducible exact State.jamJob_kept _ _ _
    | ((with_reducible refine ((State.setLane_kept _ _ _ ?_).blocks.trans (State.dispatch_kept _)).lanes);
       exact Lane.enter_row ..)
    | ((with_reducible refine (State.setLane_kept _ _ _ ?_).lanes); first | exact Lane.enter_row .. | rfl)

theorem State.loseJob_kept (s : State) (l : LaneId) : KeptByLanes s (s.loseJob l) := by
  unfold State.loseJob
  split
  · exact (State.spoil_kept s l).trans (State.settleJob_kept _ _ _ _).lanes
  · exact .refl s

theorem State.raiseLost_kept (s b : State) (l : LaneId) : KeptByLanes s (s.raiseLost b l) := by
  unfold State.raiseLost
  split
  · exact State.raiseHold_kept _ _ _
  · exact .refl s

theorem State.lose_kept (s : State) (l : LaneId) : KeptByLanes s (s.lose l) := by
  unfold State.lose
  dsimp only
  refine KeptByLanes.trans ?_ ((State.dispatch_kept _).trans (State.checkFallen_kept _ _)).lanes
  exact (((State.loseJob_kept s l).trans (State.raiseLost_kept _ _ _)).trans (State.setLane_kept ..).lanes).trans
    (State.raiseLane_kept _ _ _)

theorem State.restart_kept (s : State) (l : LaneId) (i : Slot) : KeptByBlocks s (s.restart l i) :=
  (State.setLane_kept ..).blocks.trans (State.releaseMoved_kept _ _ _ _)

theorem State.recover_kept (s : State) (l : LaneId) : KeptByBlocks s (s.recover l) := by
  unfold State.recover
  dsimp only
  repeat' split
  · exact (State.setLane_kept ..).blocks.trans (State.restart_kept _ _ _)
  · exact (State.setLane_kept ..).blocks
  · exact (State.setLane_kept ..).blocks.trans (State.dispatch_kept _)

/-! ### Sheets -/

theorem State.beginSheet_kept (s : State) (l : LaneId) (h : Handle) (m : Mark) (c : Nat) :
    KeptByLanes s (s.beginSheet l h m c) :=
  ((KeptByLanes.of_meter s (s.meter.reserve (s.job h.slot).account c) (.reserve _ _ (.refl _))).trans
    ((State.setJob_kept ..).trans (State.setLane_kept ..)).lanes).trans (State.releaseMoved_kept _ _ _ _).lanes

theorem State.boundary_kept (s : State) (l : LaneId) (h : Handle) (m : Mark) : KeptByLanes s (s.boundary l h m) := by
  unfold State.boundary State.budgetStop
  dsimp only
  repeat' split
  · exact State.drain_kept _ _
  · exact (State.setLane_kept ..).lanes
  · exact State.beginSheet_kept _ _ _ _ _
  · exact (State.setJob_kept ..).lanes.trans (State.drain_kept _ _)

theorem State.retryRoom_kept (s : State) (l : LaneId) : KeptByLanes s (s.retryRoom l) := by
  unfold State.retryRoom
  repeat' split
  all_goals first
    | exact .refl s
    | exact State.boundary_kept _ _ _ _

theorem State.finishPrologue_kept (s : State) (l : LaneId) (i : Slot) : KeptByLanes s (s.finishPrologue l i) := by
  unfold State.finishPrologue
  dsimp only
  split
  · exact ((State.setLane_kept ..).blocks.trans (State.releaseMoved_kept _ _ _ _)).lanes.trans (State.drain_kept _ _)
  · exact ((State.setLane_kept ..).blocks.trans (State.releaseMoved_kept _ _ _ _)).lanes

theorem State.sendData_kept (s : State) (l : LaneId) (i : Slot) (bytes : List Byte) (next : Nat) :
    KeptByBlocks s (s.sendData l i bytes next) := by
  unfold State.sendData
  dsimp only
  split
  · exact ((State.setLane_kept ..).blocks.trans (State.releaseMoved_kept _ _ _ _)).trans (State.complete_kept _ _ _)
  · exact (State.setLane_kept ..).blocks.trans (State.releaseMoved_kept _ _ _ _)

/-- R75: what acting on a read leaves alone. -/
theorem State.actOnRead_kept (s : State) (l : LaneId) (h : Handle) (t : State) (ht : s.actOnRead l h = .next t) :
    KeptByLanes s t := by
  unfold State.actOnRead at ht
  split at ht
  · split at ht
    · cases ht; exact State.finishPrologue_kept _ _ _
    · cases ht; exact State.boundary_kept _ _ _ _
  · cases ht; exact (State.setLane_kept ..).lanes
  · cases ht; exact State.endOfContent_kept _ _ _
  · cases ht
  · split at ht
    · cases ht; exact .refl s
    · split at ht
      · cases ht; exact (State.sendData_kept _ _ _ _ _).lanes
      · cases ht

theorem State.afterPause_kept (s : State) (l : LaneId) (i : Slot) : KeptByLanes s (s.afterPause l i) := by
  unfold State.afterPause
  repeat' split
  · exact State.drain_kept _ _
  · exact State.wake_kept _ _ _
  · exact State.retryRoom_kept _ _

theorem State.checkReady_kept (s : State) (l : LaneId) : KeptByLanes s (s.checkReady l) := by
  unfold State.checkReady
  repeat' split
  all_goals first
    | exact .refl s
    | exact (State.setLane_kept ..).lanes
    | exact (State.setLane_kept ..).lanes.trans (State.afterPause_kept _ _ _)

theorem State.afterSheet_kept (s : State) (l : LaneId) (i : Slot) : KeptByLanes s (s.afterSheet l i) := by
  unfold State.afterSheet
  repeat' split
  · exact (State.complete_kept _ _ _).lanes
  · exact State.applyStop_kept _ _
  · exact State.retryRoom_kept _ _

/-- A delivery keeps the settings. -/
theorem MeterUnit.addMetered_settings (u : MeterUnit) (a : AccountId) (c n : Nat) :
    (u.addMetered a c n).tariff = u.tariff ∧ (u.addMetered a c n).accounts = u.accounts := ⟨rfl, rfl⟩

theorem MeterUnit.applyHeld_settings (u : MeterUnit) :
    u.applyHeld.tariff = u.tariff ∧ u.applyHeld.accounts = u.accounts := by
  have h : ∀ (xs : List HeldEntry) (v : MeterUnit),
      (xs.foldl (fun v e => v.addMetered e.account e.charge e.sheets) v).tariff = v.tariff ∧
        (xs.foldl (fun v e => v.addMetered e.account e.charge e.sheets) v).accounts = v.accounts := by
    intro xs
    induction xs with
    | nil => exact fun v => ⟨rfl, rfl⟩
    | cons x xs ih => exact fun v => ih _
  exact h _ _

theorem MeterUnit.abandon_settings (u : MeterUnit) : u.abandon.tariff = u.tariff ∧ u.abandon.accounts = u.accounts := by
  unfold MeterUnit.abandon
  split
  · exact u.applyHeld_settings
  · exact ⟨rfl, rfl⟩

theorem MeterUnit.place_settings (u : MeterUnit) (a : AccountId) (c : Nat) :
    (u.place a c).tariff = u.tariff ∧ (u.place a c).accounts = u.accounts := by
  unfold MeterUnit.place MeterUnit.addHeld
  dsimp only
  repeat' split
  all_goals first
    | exact ⟨rfl, rfl⟩
    | exact u.applyHeld_settings

theorem MeterUnit.deliver_settings (u : MeterUnit) (l : LaneId) (a : AccountId) (c : Nat) :
    (u.deliver l a c).tariff = u.tariff ∧ (u.deliver l a c).accounts = u.accounts :=
  (u.unreserve a c).place_settings a c

theorem State.retire_kept (s : State) (l : LaneId) (e : InFlight) (rest : List InFlight) :
    KeptByLanes s (s.retire l e rest) :=
  ((((KeptByLanes.of_meter s _ (.deliver _ _ _ (.refl _))).trans
    (State.setJob_kept ..).lanes).trans (State.setLane_kept ..).lanes).trans (State.release_kept _ _).lanes).trans
    (State.afterSheet_kept _ _ _)

theorem State.phantom_kept (s : State) (l : LaneId) : KeptByLanes s (s.phantom l) :=
  ((State.setLane_kept s l (s.lane l).heard).lanes.trans
    (KeptByLanes.of_meter _ (s.meter.countPhantom l) (.phantom _ (.refl _)))).trans (State.raiseLane_kept _ _ _)

/-! ### The alerts of a STATUS, and a zone's changed class -/

/-- R93: the alerts of a STATUS are those of its edges, raised one after another. -/
theorem State.raiseEdges_eq (s : State) (l : LaneId) (old new : Byte) :
    s.raiseEdges l old new = s.raiseAll l (edgeAlerts old new) := by
  have one (t : State) (b : Bool) (k : AlertKind) (rest : List AlertKind) :
      t.raiseAll l ((if b then [k] else []) ++ rest) = (t.raiseIf l b k).raiseAll l rest := by cases b <;> rfl
  have last (t : State) (b : Bool) (k : AlertKind) :
      t.raiseAll l (if b then [k] else []) = t.raiseIf l b k := by cases b <;> rfl
  simp only [edgeAlerts, List.append_assoc, one, last]
  rfl

/-- R152, R153: a zone that keeps the law keeps its record, or has the record of its changed class. -/
theorem Zone.show_eq (now : Time) (d : Display) (z : Zone)
    (calm : z.display ≠ .urgent → z.count = 0 ∧ z.escalated = false) :
    z.show now d = if d = z.display then z else z.changedTo now d := by
  by_cases e : z.display = d
  · simp [Zone.show, e]
  · by_cases u : z.display = .urgent
    · cases d <;> simp_all [Zone.show, Zone.changedTo, Zone.period]
    · have := calm u
      cases z; cases d <;> simp_all [Zone.show, Zone.changedTo, Zone.period, eq_comm]

end Sys2Proof.Machine
end

