-- ==== Sys2Proof/Laws/Dispatch.lean ====
section
/-!
SUPPORT. What released blocks, dispatch, becoming READY and forced start can do to jobs and lanes: a READY job goes to a lane
that was IDLE, a FILLING one becomes READY, and every other job and lane stays as it was. And that the passes leave no
IDLE lane and candidate of its pool waiting for each other.
-/
namespace Sys2Proof.Machine

set_option Elab.async false

/-- What does not change while a job waits, becomes READY or is assigned: its content, its counts and its settings, but for
the blocks of its chain. -/
def Job.core (j : Job) : Job :=
  { j with state := .free, holdReason := none, stop := none, lane := none, forced := false, readySince := 0, chain := [] }

/-! ### Returned and released blocks -/

/-- R26: a returned block changes no job, no lane and no pool. -/
theorem State.returnBlocks_frame (s : State) (bs : List Nat) : (s.returnBlocks bs).jobs = s.jobs ∧
    (s.returnBlocks bs).lanes = s.lanes ∧ (s.returnBlocks bs).pools = s.pools ∧ (s.returnBlocks bs).time = s.time := by
  induction bs generalizing s with
  | nil => exact ⟨rfl, rfl, rfl, rfl⟩
  | cons b bs ih =>
    have h : (s.returnBlock b).jobs = s.jobs ∧ (s.returnBlock b).lanes = s.lanes ∧ (s.returnBlock b).pools = s.pools ∧
        (s.returnBlock b).time = s.time := by
      unfold State.returnBlock State.evalGrant State.reopenIntake
      repeat' split
      all_goals exact ⟨rfl, rfl, rfl, rfl⟩
    have k := ih (s.returnBlock b)
    exact ⟨k.1.trans h.1, k.2.1.trans h.2.1, k.2.2.1.trans h.2.2.1, k.2.2.2.trans h.2.2.2⟩

/-- R37: a release changes the chain of its job, and no lane, pool or other job. -/
theorem State.release_frame (s : State) (i : Slot) : ∃ c : List ChainEntry,
    (s.release i).jobs = (s.setJob i { s.job i with chain := c }).jobs ∧ (s.release i).lanes = s.lanes ∧
      (s.release i).pools = s.pools ∧ (s.release i).time = s.time := by
  unfold State.release
  dsimp only
  have h := State.returnBlocks_frame
  exact ⟨_, (h ..).1, (h ..).2.1, (h ..).2.2.1, (h ..).2.2.2⟩

/-- R37: the check of a move of the send position changes at most the chain of the job. -/
theorem State.releaseMoved_frame (s : State) (l : LaneId) (i : Slot) (old : Nat) : ∃ c : List ChainEntry,
    (s.releaseMoved l i old).jobs = (s.setJob i { s.job i with chain := c }).jobs ∧
      (s.releaseMoved l i old).lanes = s.lanes ∧ (s.releaseMoved l i old).pools = s.pools ∧
      (s.releaseMoved l i old).time = s.time := by
  unfold State.releaseMoved
  split
  · exact s.release_frame i
  · refine ⟨(s.job i).chain, ?_, rfl, rfl, rfl⟩
    have : s.jobs.slots.set i.val (s.job i) i.isLt = s.jobs.slots := Vector.set_getElem_self ..
    show s.jobs = { s.jobs with slots := s.jobs.slots.set i.val (s.job i) i.isLt }
    rw [this]

/-! ### Assignments -/

/-- R57, R61: jobs have been assigned to IDLE lanes, and their chains checked (R37). -/
structure Assigns (s t : State) : Prop where
  lanes : ∀ l : LaneId, t.lane l = s.lane l ∨
    (s.lane l).state = .idle ∧ ∃ (i : Slot) (c : List ChainEntry), (s.job i).state = .ready ∧
      t.job i = { (s.job i).assign l with chain := c } ∧
      t.lane l = ({ s.lane l with job := some (s.handleOf i) } : Lane).start s.time (s.job i)
  jobs : ∀ i : Slot, t.job i = s.job i ∨
    (s.job i).state = .ready ∧ ∃ (l : LaneId) (c : List ChainEntry), (s.lane l).state = .idle ∧
      t.job i = { (s.job i).assign l with chain := c } ∧
      t.lane l = ({ s.lane l with job := some (s.handleOf i) } : Lane).start s.time (s.job i)
  openList : t.jobs.openList = s.jobs.openList
  endList : t.jobs.endList = s.jobs.endList
  time : t.time = s.time

/-- A lane that starts a job is SENDING or PAUSED. -/
theorem Lane.start_state (l : Lane) (now : Time) (j : Job) :
    (l.start now j).state = .sending ∨ (l.start now j).state = .paused := by
  unfold Lane.start
  dsimp only
  repeat' split
  all_goals first
    | exact .inl rfl
    | exact .inr rfl

theorem Lane.start_not_idle (l : Lane) (now : Time) (j : Job) : (l.start now j).state ≠ .idle := by
  rcases l.start_state now j with h | h <;> rw [h] <;> decide

theorem Assigns.refl (s : State) : Assigns s s := ⟨fun _ => .inl rfl, fun _ => .inl rfl, rfl, rfl, rfl⟩

theorem Assigns.trans {s t u : State} (h : Assigns s t) (k : Assigns t u) : Assigns s u := by
  refine ⟨fun l => ?_, fun i => ?_, k.openList.trans h.openList, k.endList.trans h.endList, k.time.trans h.time⟩
  · rcases k.lanes l with e | ⟨hi, i, c, hr, hj, hl⟩
    · rcases h.lanes l with e' | ⟨hi, i, c, hr, hj, hl⟩
      · exact .inl (e.trans e')
      · refine .inr ⟨hi, i, c, hr, ?_, e.trans hl⟩
        rcases k.jobs i with e' | ⟨hr', _⟩
        · exact e'.trans hj
        · rw [hj] at hr'; cases hr'
    · rcases h.lanes l with e' | ⟨_, i, _, _, _, hl'⟩
      · rcases h.jobs i with ej | ⟨_, _, _, _, ej, _⟩
        · rw [e'] at hi; rw [ej] at hr hj
          refine .inr ⟨hi, i, c, hr, hj, ?_⟩
          rw [hl, e', ej, h.time]
          simp only [State.handleOf, ej]
        · rw [ej] at hr; cases hr
      · rw [hl'] at hi; exact absurd hi (Lane.start_not_idle _ _ _)
  · rcases k.jobs i with e | ⟨hr, l, c, hi, hj, hl⟩
    · rcases h.jobs i with e' | ⟨hr, l, c, hi, hj, hl⟩
      · exact .inl (e.trans e')
      · refine .inr ⟨hr, l, c, hi, e.trans hj, ?_⟩
        rcases k.lanes l with e' | ⟨hi', _⟩
        · exact e'.trans hl
        · rw [hl] at hi'; exact absurd hi' (Lane.start_not_idle _ _ _)
    · rcases h.jobs i with ej | ⟨_, _, _, _, ej, _⟩
      · rcases h.lanes l with e' | ⟨_, _, _, _, _, hl'⟩
        · rw [e'] at hi; rw [ej] at hr hj
          refine .inr ⟨hr, l, c, hi, hj, ?_⟩
          rw [hl, e', ej, h.time]
          simp only [State.handleOf, ej]
        · rw [hl'] at hi; exact absurd hi (Lane.start_not_idle _ _ _)
      · rw [ej] at hr; cases hr

/-- R57, R61: one assignment, of a READY job to an IDLE lane. -/
theorem State.assign_assigns (s : State) (p : PoolId) (i : Slot) (l : LaneId) (hi : (s.lane l).state = .idle)
    (hr : (s.job i).state = .ready) : Assigns s (s.assign p i l) := by
  obtain ⟨c, fj, fl, _, ft⟩ := State.releaseMoved_frame
    (((s.setJob i ((s.job i).assign l)).setLane l
      (({ s.lane l with job := some (s.handleOf i) } : Lane).start s.time (s.job i))).setPool p
      { s.pool p with rotor := l + 1 }) l i 0
  have hj : ∀ k : Slot, (s.assign p i l).job k =
      if k = i then { (s.job i).assign l with chain := c } else s.job k := fun k => by
    have : (s.assign p i l).job k = ((s.setJob i ((s.job i).assign l)).setJob i
        { (s.setJob i ((s.job i).assign l)).job i with chain := c }).job k :=
      congrArg (fun x : JobTable => x.slots[k]) fj
    rw [this, State.job_setJob, State.job_setJob, State.job_setJob, if_pos rfl]
    split
    · rfl
    · rfl
  have hl : ∀ k : LaneId, (s.assign p i l).lane k = if k = l then
      ({ s.lane l with job := some (s.handleOf i) } : Lane).start s.time (s.job i) else s.lane k := fun k => by
    have : (s.assign p i l).lane k = ((s.setJob i ((s.job i).assign l)).setLane l
        (({ s.lane l with job := some (s.handleOf i) } : Lane).start s.time (s.job i))).lane k :=
      congrArg (fun x : Vector Lane 16 => x[k]) fl
    rw [this, State.lane_setLane]; rfl
  refine ⟨fun k => ?_, fun k => ?_, ?_, ?_, ft⟩
  · by_cases e : k = l
    · subst e; exact .inr ⟨hi, i, c, hr, by rw [hj, if_pos rfl], by rw [hl, if_pos rfl]⟩
    · exact .inl (by rw [hl, if_neg e])
  · by_cases e : k = i
    · subst e; exact .inr ⟨hr, l, c, hi, by rw [hj, if_pos rfl], by rw [hl, if_pos rfl]⟩
    · exact .inl (by rw [hj, if_neg e])
  · show JobTable.openList (State.jobs _) = _
    rw [State.assign, fj]; rfl
  · show JobTable.endList (State.jobs _) = _
    rw [State.assign, fj]; rfl

/-- R57: the chosen lane is an IDLE member. -/
theorem State.chooseLane_some {s : State} {p : PoolId} {l : LaneId} (h : s.chooseLane p = some l) :
    (s.lane l).effPool = some p ∧ (s.lane l).state = .idle := by
  have := List.find?_some h
  simpa [Lane.idleIn, Lane.memberOf] using this

theorem State.firstOf_mem {s : State} {xs : List Slot} {i : Slot} (h : s.firstOf xs = some i) : i ∈ xs := by
  induction xs generalizing i with
  | nil => cases h
  | cons x xs ih =>
    unfold State.firstOf at h
    split at h
    · cases h; exact List.mem_cons_self
    · rename_i j hj
      split at h
      · cases h; exact List.mem_cons_of_mem _ (ih hj)
      · cases h; exact List.mem_cons_self

/-- R56: a winner is a candidate. -/
theorem State.winner_candidate {s : State} {p : PoolId} {i : Slot} (h : s.winner p = some i) : s.isCandidate p i = true :=
  (List.mem_filter.mp (State.firstOf_mem h)).2

/-- R55: a candidate is READY, and its pool or the fallback of its pool is the pool. -/
theorem State.isCandidate_iff (s : State) (p : PoolId) (i : Slot) :
    s.isCandidate p i = true ↔ (s.job i).state = .ready ∧ s.target (s.job i).pool = some p := by
  simp [State.isCandidate]

theorem State.passRounds_assigns (p : PoolId) (n : Nat) (s : State) : Assigns s (s.passRounds p n) := by
  induction n generalizing s with
  | zero => exact .refl s
  | succ n ih =>
    unfold State.passRounds
    split
    · exact .refl s
    · rename_i l hl
      split
      · exact .refl s
      · rename_i i hw
        exact (State.assign_assigns s p i l (State.chooseLane_some hl).2
          ((State.isCandidate_iff ..).mp (State.winner_candidate hw)).1).trans (ih _)

theorem Assigns.foldl {α : Type} (f : State → α → State) (h : ∀ s a, Assigns s (f s a)) (xs : List α) (s : State) :
    Assigns s (xs.foldl f s) := by
  induction xs generalizing s with
  | nil => exact .refl s
  | cons x xs ih => exact (h s x).trans (ih _)

/-- R58: the passes assign READY jobs to IDLE lanes, and do nothing else to jobs and lanes. -/
theorem State.dispatch_assigns (s : State) : Assigns s s.dispatch :=
  Assigns.foldl _ (fun s p => State.passRounds_assigns p 16 s) _ s

/-- A lane that is not IDLE is left as it was. -/
theorem Assigns.lane_eq {s t : State} (h : Assigns s t) {l : LaneId} (hl : (s.lane l).state ≠ .idle) :
    t.lane l = s.lane l := (h.lanes l).resolve_right fun k => hl k.1

/-- A job that is not READY is left as it was. -/
theorem Assigns.job_eq {s t : State} (h : Assigns s t) {i : Slot} (hi : (s.job i).state ≠ .ready) :
    t.job i = s.job i := (h.jobs i).resolve_right fun k => hi k.1

/-! ### What forced start can do besides -/

/-- Jobs that were FILLING or READY may have become READY or been assigned; IDLE lanes may have taken jobs; nothing else of
the jobs and lanes has changed. -/
structure Advances (s t : State) : Prop where
  lanes : ∀ l : LaneId, t.lane l = s.lane l ∨
    (s.lane l).state = .idle ∧ ∃ (i : Slot) (j : Job), (t.job i).state = .printing ∧ (t.job i).lane = some l ∧
      j.core = (s.job i).core ∧
      t.lane l = ({ s.lane l with job := some (s.handleOf i) } : Lane).start s.time j
  jobs : ∀ i : Slot, t.job i = s.job i ∨
    ((s.job i).state = .ready ∨ (s.job i).state = .filling) ∧ ((t.job i).state = .ready ∨ (t.job i).state = .printing) ∧
      (t.job i).core = (s.job i).core ∧ (t.job i).stop = none ∧
      ((t.job i).readySince = s.time ∨ (s.job i).state = .ready ∧ (t.job i).readySince = (s.job i).readySince)
  openList : t.jobs.openList = s.jobs.openList
  endList : t.jobs.endList = s.jobs.endList
  time : t.time = s.time

theorem Advances.refl (s : State) : Advances s s := ⟨fun _ => .inl rfl, fun _ => .inl rfl, rfl, rfl, rfl⟩

theorem Advances.core {s t : State} (h : Advances s t) (i : Slot) : (t.job i).core = (s.job i).core := by
  rcases h.jobs i with e | ⟨_, _, e, _⟩
  · rw [e]
  · exact e

theorem Advances.gen {s t : State} (h : Advances s t) (i : Slot) : (t.job i).gen = (s.job i).gen :=
  show (t.job i).core.gen = (s.job i).core.gen from congrArg Job.gen (h.core i)

theorem Assigns.advances {s t : State} (h : Assigns s t) : Advances s t := by
  refine ⟨fun l => ?_, fun i => ?_, h.openList, h.endList, h.time⟩
  · rcases h.lanes l with e | ⟨hi, i, _, _, hj, hl⟩
    · exact .inl e
    · exact .inr ⟨hi, i, s.job i, by rw [hj]; rfl, by rw [hj]; rfl, rfl, hl⟩
  · rcases h.jobs i with e | ⟨hr, l, _, _, hj, _⟩
    · exact .inl e
    · exact .inr ⟨.inl hr, .inr (by rw [hj]; rfl), by rw [hj]; rfl, by rw [hj]; rfl, .inr ⟨hr, by rw [hj]; rfl⟩⟩

theorem Advances.trans {s t u : State} (h : Advances s t) (k : Advances t u) : Advances s u := by
  refine ⟨fun l => ?_, fun i => ?_, k.openList.trans h.openList, k.endList.trans h.endList, k.time.trans h.time⟩
  · rcases k.lanes l with e | ⟨hi, i, j, hp, hq, hc, hl⟩
    · rcases h.lanes l with e' | ⟨hi, i, j, hp, hq, hc, hl⟩
      · exact .inl (e.trans e')
      · refine .inr ⟨hi, i, j, ?_, ?_, hc, e.trans hl⟩
        all_goals
          rcases k.jobs i with e' | ⟨hs, _⟩
          · rw [e']; assumption
          · rw [hp] at hs; rcases hs with h | h <;> cases h
    · rcases h.lanes l with e' | ⟨_, _, _, _, _, _, hl'⟩
      · rw [e'] at hi
        refine .inr ⟨hi, i, j, hp, hq, hc.trans (h.core i), ?_⟩
        rw [hl, e', h.time]
        simp only [State.handleOf, h.gen]
      · rw [hl'] at hi; exact absurd hi (Lane.start_not_idle _ _ _)
  · rcases k.jobs i with e | ⟨hs, ht, hc, hst, hq⟩
    · rcases h.jobs i with e' | ⟨hs, ht, hc, hst, hq⟩
      · exact .inl (e.trans e')
      · exact .inr ⟨hs, e ▸ ht, e ▸ hc, e ▸ hst, e ▸ hq⟩
    · rcases h.jobs i with e' | ⟨hs', _, _, _, hq'⟩
      · rw [e'] at hs hq; exact .inr ⟨hs, ht, hc.trans (h.core i), hst, h.time ▸ hq⟩
      · refine .inr ⟨hs', ht, hc.trans (h.core i), hst, ?_⟩
        rcases hq with e | ⟨_, e⟩
        · exact .inl (e.trans h.time)
        · rw [e]; exact hq'

/-- A change outside jobs, lanes and time. -/
theorem Advances.of_eq {s t : State} (hj : t.jobs = s.jobs) (hl : t.lanes = s.lanes) (ht : t.time = s.time) :
    Advances s t :=
  ⟨fun l => .inl (by simp [State.lane, hl]), fun i => .inl (by simp [State.job, hj]), by rw [hj], by rw [hj], ht⟩

theorem Advances.foldl {α : Type} (f : State → α → State) (h : ∀ s a, Advances s (f s a)) (xs : List α) (s : State) :
    Advances s (xs.foldl f s) := by
  induction xs generalizing s with
  | nil => exact .refl s
  | cons x xs ih => exact (h s x).trans (ih _)

/-- A FILLING or READY job becomes READY. -/
theorem State.setReady_advances (s : State) (i : Slot) (j : Job) (h : (s.job i).state = .ready ∨ (s.job i).state = .filling)
    (hs : j.state = .ready) (hc : j.core = (s.job i).core) (hst : j.stop = none) (ht : j.readySince = s.time) :
    Advances s (s.setJob i j) := by
  refine ⟨fun l => .inl (State.lane_setJob ..), fun k => ?_, State.setJob_openList .., State.setJob_endList .., rfl⟩
  rw [State.job_setJob]
  split
  · rename_i e; subst e; exact .inr ⟨h, .inl hs, hc, hst, .inl ht⟩
  · exact .inl rfl

/-- R11: a job that was FILLING or READY becomes READY, and may be assigned. -/
theorem State.makeReady_advances (s : State) (i : Slot) (h : (s.job i).state = .ready ∨ (s.job i).state = .filling) :
    Advances s (s.makeReady i) :=
  (State.setReady_advances s i ((s.job i).ready s.time) h rfl rfl rfl rfl).trans (State.dispatch_assigns _).advances

theorem State.setJob_setJob (s : State) (i : Slot) (j k : Job) : (s.setJob i j).setJob i k = s.setJob i k := by
  simp [State.setJob]

/-- R45: forced start makes a FILLING job READY, or does nothing. -/
theorem State.forcedStart_advances (s : State) : Advances s s.forcedStart := by
  unfold State.forcedStart
  split
  · exact .refl s
  · split
    · rename_i i hi
      have hf := List.find?_some hi
      simp only [Bool.and_eq_true, decide_eq_true_eq] at hf
      unfold State.makeReady
      rw [State.setJob_setJob, State.job_setJob_same]
      exact (State.setReady_advances s i (({ s.job i with forced := true } : Job).ready s.time) (.inr hf.1) rfl rfl rfl rfl).trans (State.dispatch_assigns _).advances
    · exact .refl s

theorem State.checkFallen_advances (s b : State) : Advances s (s.checkFallen b) := by
  unfold State.checkFallen
  split
  · exact State.forcedStart_advances s
  · exact .refl s

theorem State.evalGrant_advances (s : State) : Advances s s.evalGrant := by
  have h : s.evalGrant.jobs = s.jobs ∧ s.evalGrant.lanes = s.lanes ∧ s.evalGrant.time = s.time := by
    unfold State.evalGrant
    split <;> exact ⟨rfl, rfl, rfl⟩
  exact .of_eq h.1 h.2.1 h.2.2

theorem Advances.of_intake (s : State) (u : IntakeUnit) : Advances s { s with intake := u } := .of_eq rfl rfl rfl

theorem Advances.of_store (s : State) (u : SpoolStore) : Advances s { s with store := u } := .of_eq rfl rfl rfl

theorem State.reopenIntake_advances (s : State) : Advances s s.reopenIntake := by
  unfold State.reopenIntake
  split
  · exact Advances.of_intake s _
  · exact .refl s

theorem State.checkIntake_advances (s : State) : Advances s s.checkIntake := by
  unfold State.checkIntake
  repeat' split
  · exact (Advances.of_intake s _).trans (State.forcedStart_advances _)
  · exact .refl s
  · exact s.reopenIntake_advances.trans (State.evalGrant_advances _)
  · exact .refl s

/-- A lane that is not IDLE is left as it was. -/
theorem Advances.lane_eq {s t : State} (h : Advances s t) {l : LaneId} (hl : (s.lane l).state ≠ .idle) :
    t.lane l = s.lane l := (h.lanes l).resolve_right fun k => hl k.1

/-- A job that is neither FILLING nor READY is left as it was. -/
theorem Advances.job_eq {s t : State} (h : Advances s t) {i : Slot} (hi : (s.job i).state ≠ .ready)
    (hf : (s.job i).state ≠ .filling) : t.job i = s.job i := (h.jobs i).resolve_right fun k => k.1.elim hi hf

end Sys2Proof.Machine
end

