-- ==== Sys2Proof/Laws/Memory.lean ====
section
/-!
SUPPORT. The DRAM: a read after a write, a write elsewhere, and that every write keeps the canonical form.
-/
namespace Sys2Proof.Machine

set_option Elab.async false

/-- A read after a write to the same address gives the byte written. -/
@[simp] theorem Memory.read_write_same (m : Memory) (a : Nat) (b : Byte) : (m.write a b).read a = some b := by
  induction m with
  | nil => simp [Memory.write, Memory.read]
  | cons c m ih =>
    unfold Memory.write
    repeat' split
    · simp [Memory.read]
    · simp [Memory.read]
    · rename_i h1 h2
      have : c.1 ≠ a := fun e => h2 e.symm
      simpa [Memory.read, this] using ih

/-- A write leaves every other address as it read. -/
theorem Memory.read_write_ne (m : Memory) {a x : Nat} (h : x ≠ a) (b : Byte) : (m.write a b).read x = m.read x := by
  have h' : a ≠ x := fun e => h e.symm
  induction m with
  | nil => simp [Memory.write, Memory.read, h']
  | cons c m ih =>
    unfold Memory.write
    repeat' split
    · simp [Memory.read, h']
    · rename_i h1 h2
      subst h2
      simp [Memory.read, h']
    · simp [Memory.read, ih]

/-- An address read after an address is written. -/
theorem Memory.read_write (m : Memory) (a x : Nat) (b : Byte) :
    (m.write a b).read x = if x = a then some b else m.read x := by
  by_cases h : x = a
  · subst h; simp
  · simp [h, Memory.read_write_ne m h b]

/-- A write above `lo` keeps every address above `lo` and rising. -/
theorem Memory.above_write (m : Memory) (lo a : Nat) (b : Byte) (h : Memory.above lo m = true) (ha : lo < a) :
    Memory.above lo (m.write a b) = true := by
  induction m generalizing lo with
  | nil => simp [Memory.write, Memory.above, ha]
  | cons c m ih =>
    simp only [Memory.above, Bool.and_eq_true, decide_eq_true_eq] at h
    unfold Memory.write
    repeat' split
    · rename_i h1
      simp [Memory.above, ha, h1, h.2]
    · rename_i h1 h2
      subst h2
      simp [Memory.above, ha, h.2]
    · rename_i h1 h2
      simp only [Memory.above, Bool.and_eq_true, decide_eq_true_eq]
      exact ⟨h.1, ih c.1 h.2 (by omega)⟩

/-- A write keeps the canonical form. -/
theorem Memory.wf_write (m : Memory) (a : Nat) (b : Byte) (h : m.wf = true) : (m.write a b).wf = true := by
  cases m with
  | nil => rfl
  | cons c m =>
    unfold Memory.write
    repeat' split
    · rename_i h1
      simpa [Memory.wf, Memory.above, h1] using h
    · rename_i h1 h2
      subst h2
      exact h
    · rename_i h1 h2
      exact Memory.above_write m c.1 a b h (by omega)

/-- Writing content keeps the canonical form. -/
theorem Memory.wf_writeContent (chain : List ChainEntry) (bytes : List Byte) (m : Memory) (pos : Nat) (m' : Memory)
    (h : m.wf = true) (hw : Memory.writeContent chain m pos bytes = some m') : m'.wf = true := by
  induction bytes generalizing m pos with
  | nil => cases hw; exact h
  | cons b bs ih =>
    unfold Memory.writeContent at hw
    split at hw
    · rename_i a ha
      exact ih _ _ (Memory.wf_write m a b h) hw
    · cases hw

/-- Writing content leaves every byte outside the content written as it read. -/
theorem Memory.read_writeContent_frame (chain : List ChainEntry) (bytes : List Byte) (m : Memory) (pos : Nat) (m' : Memory)
    (hw : Memory.writeContent chain m pos bytes = some m') (x : Nat)
    (hx : ∀ k, k < bytes.length → addressOf chain (pos + k) ≠ some x) : m'.read x = m.read x := by
  induction bytes generalizing m pos with
  | nil => cases hw; rfl
  | cons b bs ih =>
    unfold Memory.writeContent at hw
    split at hw
    · rename_i a ha
      rw [ih _ _ hw (fun k hk => by
        have := hx (k + 1) (by simpa using hk)
        rwa [show pos + (k + 1) = pos + 1 + k by omega] at this)]
      refine Memory.read_write_ne m ?_ b
      rintro rfl
      exact hx 0 (by simp) (by simpa using ha)
    · cases hw

/-- Content whose every position has an address can be written. -/
theorem Memory.writeContent_isSome (chain : List ChainEntry) (bytes : List Byte) (m : Memory) (pos : Nat)
    (h : ∀ k, k < bytes.length → (addressOf chain (pos + k)).isSome = true) :
    ∃ m', Memory.writeContent chain m pos bytes = some m' := by
  induction bytes generalizing m pos with
  | nil => exact ⟨m, rfl⟩
  | cons b bs ih =>
    have h0 : (addressOf chain pos).isSome = true := h 0 (by simp)
    obtain ⟨a, ha⟩ := Option.isSome_iff_exists.mp h0
    obtain ⟨m', hm'⟩ := ih (m.write a b) (pos + 1) (fun k hk => by
      have := h (k + 1) (by simpa using hk)
      rwa [show pos + (k + 1) = pos + 1 + k by omega] at this)
    exact ⟨m', by unfold Memory.writeContent; simp [ha, hm']⟩

end Sys2Proof.Machine
end

