-- ==== Sys2Proof/Laws/PerInstr.lean ====
section
/-!
SUPPORT. BodyFits: the body that the encoder gives a well-formed command fits R170's largest kind, one lemma for each
constructor.
-/
namespace Sys2Proof.Laws

set_option Elab.async false
set_option linter.unusedSimpArgs false

/-- R172: the bytes of `n` rows of `size` bytes each. -/
theorem rowsBytes_length {α : Type} (bytes : α → List Byte) (size : Nat) (h : ∀ r, (bytes r).length = size)
    (rows : List α) : (rowsBytes bytes rows).length = rows.length * size := by
  induction rows with
  | nil => simp [rowsBytes]
  | cons r rows ih =>
    have e : rowsBytes bytes (r :: rows) = bytes r ++ rowsBytes bytes rows := by simp [rowsBytes]
    rw [e, List.length_append, h, ih, List.length_cons, Nat.succ_mul, Nat.add_comm]

/-- R156: what `setFits` says. -/
theorem setFits_iff (size : Nat) (count : Byte) (n : Nat) :
    setFits size count n = true ↔ n = count.toNat ∧ 3 + count.toNat * size ≤ 4096 := by
  simp [setFits]

@[simp] theorem systemBytes_length (w : SystemWrite) : w.bytes.length = 26 := by
  simp [SystemWrite.bytes, wordBytes]
@[simp] theorem classBytes_length (w : ClassWrite) : w.bytes.length = 4 := by simp [ClassWrite.bytes]
@[simp] theorem poolBytes_length (w : PoolWrite) : w.bytes.length = 5 := by simp [PoolWrite.bytes]
@[simp] theorem laneBytes_length (w : LaneWrite) : w.bytes.length = 8 := by simp [LaneWrite.bytes, halfBytes]
@[simp] theorem tariffBytes_length (w : TariffWrite) : w.bytes.length = 7 := by simp [TariffWrite.bytes, halfBytes]
@[simp] theorem accountBytes_length (w : AccountWrite) : w.bytes.length = 7 := by
  cases h : w.budget <;> simp [AccountWrite.bytes, wordBytes, h]
@[simp] theorem zoneBytes_length (w : ZoneWrite) : w.bytes.length = 8 := by simp [ZoneWrite.bytes]

/-- The body that the encoder gives a well-formed command has at most 4,096 bytes (R170). -/
def BodyFits.Statement (i : Instr) : Prop :=
  i.wellFormed = true → ∀ kind body, encodeBody i = some (kind, body) → body.length ≤ 4096

theorem BodyFits.openJob (tag : Word) (cls : Byte) (account : Byte) : BodyFits.Statement (.openJob tag cls account) := by
  intro _ kind body he
  simp only [encodeBody, Option.some.injEq, Prod.mk.injEq] at he
  obtain ⟨-, rfl⟩ := he
  simp [wordBytes, halfBytes, Handle.bytes]

theorem BodyFits.data (h : Handle) (seq : Half) (payload : List Byte) : BodyFits.Statement (.data h seq payload) := by
  intro hw kind body he
  have hp : 1 ≤ payload.length ∧ payload.length ≤ 1024 := by simpa [Instr.wellFormed, payloadFits] using hw
  simp only [encodeBody, Option.some.injEq, Prod.mk.injEq] at he
  obtain ⟨-, rfl⟩ := he
  simp only [Handle.bytes, halfBytes, List.length_append, List.length_cons, List.length_nil]
  omega

theorem BodyFits.mark (h : Handle) (seq : Half) (media : Byte) (sides : Byte) (colour : Byte) : BodyFits.Statement (.mark h seq media sides colour) := by
  intro _ kind body he
  simp only [encodeBody, Option.some.injEq, Prod.mk.injEq] at he
  obtain ⟨-, rfl⟩ := he
  simp [wordBytes, halfBytes, Handle.bytes]

theorem BodyFits.close (h : Handle) (seq : Half) : BodyFits.Statement (.close h seq) := by
  intro _ kind body he
  simp only [encodeBody, Option.some.injEq, Prod.mk.injEq] at he
  obtain ⟨-, rfl⟩ := he
  simp [wordBytes, halfBytes, Handle.bytes]

theorem BodyFits.cancel (h : Handle) : BodyFits.Statement (.cancel h) := by
  intro _ kind body he
  simp only [encodeBody, Option.some.injEq, Prod.mk.injEq] at he
  obtain ⟨-, rfl⟩ := he
  simp [wordBytes, halfBytes, Handle.bytes]

theorem BodyFits.release (h : Handle) : BodyFits.Statement (.release h) := by
  intro _ kind body he
  simp only [encodeBody, Option.some.injEq, Prod.mk.injEq] at he
  obtain ⟨-, rfl⟩ := he
  simp [wordBytes, halfBytes, Handle.bytes]

theorem BodyFits.setSystem (first : Byte) (count : Byte) (rows : List SystemWrite) : BodyFits.Statement (.setSystem first count rows) := by
  intro hw kind body he
  have hf := (setFits_iff _ _ _).mp hw
  have hs : Table.system.rowSize = 26 := rfl
  simp only [encodeBody, Option.some.injEq, Prod.mk.injEq] at he
  obtain ⟨-, rfl⟩ := he
  simp only [List.length_append, rowsBytes_length SystemWrite.bytes 26 systemBytes_length, List.length_cons, List.length_nil]
  rw [hs] at hf
  omega

theorem BodyFits.setClass (first : Byte) (count : Byte) (rows : List ClassWrite) : BodyFits.Statement (.setClass first count rows) := by
  intro hw kind body he
  have hf := (setFits_iff _ _ _).mp hw
  have hs : Table.cls.rowSize = 4 := rfl
  simp only [encodeBody, Option.some.injEq, Prod.mk.injEq] at he
  obtain ⟨-, rfl⟩ := he
  simp only [List.length_append, rowsBytes_length ClassWrite.bytes 4 classBytes_length, List.length_cons, List.length_nil]
  rw [hs] at hf
  omega

theorem BodyFits.setPool (first : Byte) (count : Byte) (rows : List PoolWrite) : BodyFits.Statement (.setPool first count rows) := by
  intro hw kind body he
  have hf := (setFits_iff _ _ _).mp hw
  have hs : Table.pool.rowSize = 5 := rfl
  simp only [encodeBody, Option.some.injEq, Prod.mk.injEq] at he
  obtain ⟨-, rfl⟩ := he
  simp only [List.length_append, rowsBytes_length PoolWrite.bytes 5 poolBytes_length, List.length_cons, List.length_nil]
  rw [hs] at hf
  omega

theorem BodyFits.setLaneConfig (first : Byte) (count : Byte) (rows : List LaneWrite) : BodyFits.Statement (.setLaneConfig first count rows) := by
  intro hw kind body he
  have hf := (setFits_iff _ _ _).mp hw
  have hs : Table.laneConfig.rowSize = 8 := rfl
  simp only [encodeBody, Option.some.injEq, Prod.mk.injEq] at he
  obtain ⟨-, rfl⟩ := he
  simp only [List.length_append, rowsBytes_length LaneWrite.bytes 8 laneBytes_length, List.length_cons, List.length_nil]
  rw [hs] at hf
  omega

theorem BodyFits.setTariff (first : Byte) (count : Byte) (rows : List TariffWrite) : BodyFits.Statement (.setTariff first count rows) := by
  intro hw kind body he
  have hf := (setFits_iff _ _ _).mp hw
  have hs : Table.tariff.rowSize = 7 := rfl
  simp only [encodeBody, Option.some.injEq, Prod.mk.injEq] at he
  obtain ⟨-, rfl⟩ := he
  simp only [List.length_append, rowsBytes_length TariffWrite.bytes 7 tariffBytes_length, List.length_cons, List.length_nil]
  rw [hs] at hf
  omega

theorem BodyFits.setAccount (first : Byte) (count : Byte) (rows : List AccountWrite) : BodyFits.Statement (.setAccount first count rows) := by
  intro hw kind body he
  have hf := (setFits_iff _ _ _).mp hw
  have hs : Table.account.rowSize = 7 := rfl
  simp only [encodeBody, Option.some.injEq, Prod.mk.injEq] at he
  obtain ⟨-, rfl⟩ := he
  simp only [List.length_append, rowsBytes_length AccountWrite.bytes 7 accountBytes_length, List.length_cons, List.length_nil]
  rw [hs] at hf
  omega

theorem BodyFits.setZone (first : Byte) (count : Byte) (rows : List ZoneWrite) : BodyFits.Statement (.setZone first count rows) := by
  intro hw kind body he
  have hf := (setFits_iff _ _ _).mp hw
  have hs : Table.zone.rowSize = 8 := rfl
  simp only [encodeBody, Option.some.injEq, Prod.mk.injEq] at he
  obtain ⟨-, rfl⟩ := he
  simp only [List.length_append, rowsBytes_length ZoneWrite.bytes 8 zoneBytes_length, List.length_cons, List.length_nil]
  rw [hs] at hf
  omega

theorem BodyFits.setOther (table : SetTarget) (first : Byte) (count : Byte) : BodyFits.Statement (.setOther table first count) := by
  intro hw kind body he
  simp only [encodeBody, Option.some.injEq, Prod.mk.injEq] at he
  obtain ⟨-, rfl⟩ := he
  simp only [List.length_append, List.length_replicate, List.length_cons, List.length_nil]
  cases table with
  | unknown c => simp
  | laneState | laneCounters | job | alert =>
    have hf := (setFits_iff _ _ _).mp hw
    simp only [Table.rowSize] at hf ⊢
    omega

theorem BodyFits.get (table : Byte) (first : Byte) (count : Byte) : BodyFits.Statement (.get table first count) := by
  intro _ kind body he
  simp only [encodeBody, Option.some.injEq, Prod.mk.injEq] at he
  obtain ⟨-, rfl⟩ := he
  simp [wordBytes, halfBytes, Handle.bytes]

theorem BodyFits.meterRead (first : Byte) (count : Byte) (zero : Bool) : BodyFits.Statement (.meterRead first count zero) := by
  intro _ kind body he
  simp only [encodeBody, Option.some.injEq, Prod.mk.injEq] at he
  obtain ⟨-, rfl⟩ := he
  simp [wordBytes, halfBytes, Handle.bytes]

theorem BodyFits.ackAlert (sourceType : Byte) (sourceNumber : Byte) (kind : Byte) : BodyFits.Statement (.ackAlert sourceType sourceNumber kind) := by
  intro _ kind body he
  simp only [encodeBody, Option.some.injEq, Prod.mk.injEq] at he
  obtain ⟨-, rfl⟩ := he
  simp [wordBytes, halfBytes, Handle.bytes]

theorem BodyFits.ackZone (zone : Byte) : BodyFits.Statement (.ackZone zone) := by
  intro _ kind body he
  simp only [encodeBody, Option.some.injEq, Prod.mk.injEq] at he
  obtain ⟨-, rfl⟩ := he
  simp [wordBytes, halfBytes, Handle.bytes]

theorem BodyFits.enable (lane : Byte) : BodyFits.Statement (.enable lane) := by
  intro _ kind body he
  simp only [encodeBody, Option.some.injEq, Prod.mk.injEq] at he
  obtain ⟨-, rfl⟩ := he
  simp [wordBytes, halfBytes, Handle.bytes]

theorem BodyFits.disable (lane : Byte) : BodyFits.Statement (.disable lane) := by
  intro _ kind body he
  simp only [encodeBody, Option.some.injEq, Prod.mk.injEq] at he
  obtain ⟨-, rfl⟩ := he
  simp [wordBytes, halfBytes, Handle.bytes]

theorem BodyFits.init (lane : Byte) : BodyFits.Statement (.init lane) := by
  intro _ kind body he
  simp only [encodeBody, Option.some.injEq, Prod.mk.injEq] at he
  obtain ⟨-, rfl⟩ := he
  simp [wordBytes, halfBytes, Handle.bytes]

theorem BodyFits.resume (lane : Byte) : BodyFits.Statement (.resume lane) := by
  intro _ kind body he
  simp only [encodeBody, Option.some.injEq, Prod.mk.injEq] at he
  obtain ⟨-, rfl⟩ := he
  simp [wordBytes, halfBytes, Handle.bytes]

theorem BodyFits.command (lane : Byte) (code : Byte) : BodyFits.Statement (.command lane code) := by
  intro _ kind body he
  simp only [encodeBody, Option.some.injEq, Prod.mk.injEq] at he
  obtain ⟨-, rfl⟩ := he
  simp [wordBytes, halfBytes, Handle.bytes]

theorem BodyFits.cancelCommand (lane : Byte) : BodyFits.Statement (.cancelCommand lane) := by
  intro _ kind body he
  simp only [encodeBody, Option.some.injEq, Prod.mk.injEq] at he
  obtain ⟨-, rfl⟩ := he
  simp [wordBytes, halfBytes, Handle.bytes]

theorem BodyFits.reset : BodyFits.Statement (.reset) := by
  intro _ kind body he
  simp only [encodeBody, Option.some.injEq, Prod.mk.injEq] at he
  obtain ⟨-, rfl⟩ := he
  simp [wordBytes, halfBytes, Handle.bytes]

theorem BodyFits.unknownKind (form : UnknownForm) : BodyFits.Statement (.unknownKind form) := by
  intro _ kind body he
  cases form <;> simp only [encodeBody, Option.some.injEq, Prod.mk.injEq] at he <;> obtain ⟨-, rfl⟩ := he <;> simp

theorem BodyFits.linkError : BodyFits.Statement (.linkError) := by
  intro _ kind body he
  simp [encodeBody] at he

theorem BodyFits.uplinkFrameStart : BodyFits.Statement (.uplinkFrameStart) := by
  intro _ kind body he
  simp [encodeBody] at he

theorem BodyFits.serialiseRow : BodyFits.Statement (.serialiseRow) := by
  intro _ kind body he
  simp [encodeBody] at he

theorem BodyFits.creditHandover : BodyFits.Statement (.creditHandover) := by
  intro _ kind body he
  simp [encodeBody] at he

theorem BodyFits.responseHandover : BodyFits.Statement (.responseHandover) := by
  intro _ kind body he
  simp [encodeBody] at he

theorem BodyFits.alertHandover : BodyFits.Statement (.alertHandover) := by
  intro _ kind body he
  simp [encodeBody] at he

theorem BodyFits.replyHandover : BodyFits.Statement (.replyHandover) := by
  intro _ kind body he
  simp [encodeBody] at he

theorem BodyFits.jobEndHandover : BodyFits.Statement (.jobEndHandover) := by
  intro _ kind body he
  simp [encodeBody] at he

theorem BodyFits.linkDown : BodyFits.Statement (.linkDown) := by
  intro _ kind body he
  simp [encodeBody] at he

theorem BodyFits.linkUp : BodyFits.Statement (.linkUp) := by
  intro _ kind body he
  simp [encodeBody] at he

theorem BodyFits.supplyDrop : BodyFits.Statement (.supplyDrop) := by
  intro _ kind body he
  simp [encodeBody] at he

theorem BodyFits.supplyRise : BodyFits.Statement (.supplyRise) := by
  intro _ kind body he
  simp [encodeBody] at he

theorem BodyFits.resetPin : BodyFits.Statement (.resetPin) := by
  intro _ kind body he
  simp [encodeBody] at he

theorem BodyFits.backupSupplyLoss : BodyFits.Statement (.backupSupplyLoss) := by
  intro _ kind body he
  simp [encodeBody] at he

theorem BodyFits.status (lane : LaneId) (fields : Byte) : BodyFits.Statement (.status lane fields) := by
  intro _ kind body he
  simp [encodeBody] at he

theorem BodyFits.printerCredit (lane : LaneId) (count : Byte) : BodyFits.Statement (.printerCredit lane count) := by
  intro _ kind body he
  simp [encodeBody] at he

theorem BodyFits.sheetOut (lane : LaneId) : BodyFits.Statement (.sheetOut lane) := by
  intro _ kind body he
  simp [encodeBody] at he

theorem BodyFits.tokenDiscard (lane : LaneId) : BodyFits.Statement (.tokenDiscard lane) := by
  intro _ kind body he
  simp [encodeBody] at he

theorem BodyFits.pollTimerExpiry (lane : LaneId) : BodyFits.Statement (.pollTimerExpiry lane) := by
  intro _ kind body he
  simp [encodeBody] at he

theorem BodyFits.pollSend (lane : LaneId) : BodyFits.Statement (.pollSend lane) := by
  intro _ kind body he
  simp [encodeBody] at he

theorem BodyFits.commandSend (lane : LaneId) : BodyFits.Statement (.commandSend lane) := by
  intro _ kind body he
  simp [encodeBody] at he

theorem BodyFits.laneRead (lane : LaneId) : BodyFits.Statement (.laneRead lane) := by
  intro _ kind body he
  simp [encodeBody] at he

theorem BodyFits.jobStreamTokenTaken (lane : LaneId) : BodyFits.Statement (.jobStreamTokenTaken lane) := by
  intro _ kind body he
  simp [encodeBody] at he

theorem BodyFits.laneLoss (lane : LaneId) : BodyFits.Statement (.laneLoss lane) := by
  intro _ kind body he
  simp [encodeBody] at he

theorem BodyFits.stallExpiry (lane : LaneId) : BodyFits.Statement (.stallExpiry lane) := by
  intro _ kind body he
  simp [encodeBody] at he

theorem BodyFits.recoveryTimerExpiry (lane : LaneId) : BodyFits.Statement (.recoveryTimerExpiry lane) := by
  intro _ kind body he
  simp [encodeBody] at he

theorem BodyFits.beaconPeriodEnd (zone : ZoneId) : BodyFits.Statement (.beaconPeriodEnd zone) := by
  intro _ kind body he
  simp [encodeBody] at he

theorem BodyFits.beaconOnEnd (zone : ZoneId) : BodyFits.Statement (.beaconOnEnd zone) := by
  intro _ kind body he
  simp [encodeBody] at he

theorem BodyFits.zoneEscalate (zone : ZoneId) : BodyFits.Statement (.zoneEscalate zone) := by
  intro _ kind body he
  simp [encodeBody] at he

theorem BodyFits.timeTick : BodyFits.Statement (.timeTick) := by
  intro _ kind body he
  simp [encodeBody] at he

end Sys2Proof.Laws
end

