-- ==== Sys2Proof/Tests/Slice0.lean ====
section
/-!
SUPPORT. Tests of the model: terms that are not well formed and are refused, frames and tokens written out from the
tables of section 10, one or two steps for each command with results computed by hand from the rules, and for each
statement with hypotheses a state that meets them.
-/
namespace Sys2Proof.Tests.Slice0

set_option Elab.async false

open Sys2Proof Sys2Proof.Machine

/-! ### Ill-formed terms (R156, R86, R157, R162) -/

theorem test_illformed_data :
    (Instr.data { slot := 0, gen := 0 } 0 []).wellFormed = false ∧
      (Instr.data { slot := 0, gen := 0 } 0 (List.replicate 1025 0)).wellFormed = false := by decide +kernel

theorem test_wellformed_data_edge : (Instr.data { slot := 0, gen := 0 } 0 (List.replicate 1024 0)).wellFormed = true := by
  decide +kernel

theorem test_illformed_sets :
    (Instr.setSystem 0 1 []).wellFormed = false ∧ (Instr.setClass 0 1 []).wellFormed = false ∧
      (Instr.setPool 0 1 []).wellFormed = false ∧ (Instr.setLaneConfig 0 1 []).wellFormed = false ∧
      (Instr.setTariff 0 1 []).wellFormed = false ∧ (Instr.setAccount 0 1 []).wellFormed = false ∧
      (Instr.setZone 0 1 []).wellFormed = false := by decide

theorem test_illformed_refused_sets :
    (Instr.setOther (.unknown 10) 0 1).wellFormed = false ∧ (Instr.setOther .job 0 82).wellFormed = false ∧
      (Instr.setOther .laneState 0 137).wellFormed = false ∧ (Instr.setOther .laneCounters 0 158).wellFormed = false ∧
      (Instr.setOther .alert 0 255).wellFormed = true := by decide

theorem test_illformed_unknown_kinds :
    (Instr.unknownKind (.frame 0x3F)).wellFormed = false ∧ (Instr.unknownKind (.laneAction 0 5)).wellFormed = false ∧
      (Instr.unknownKind (.laneAction 0 6)).wellFormed = true := by decide

/-! ### Frames and tokens written out (R169 to R172) -/

/-- R169: the check of an implementation that the rule itself gives. -/
theorem test_crc_of_the_manual : crc16 [0x31, 0x32, 0x33, 0x34, 0x35, 0x36, 0x37, 0x38, 0x39] = 0x29B1 := by
  decide +kernel

theorem test_frame_data :
    decodeFrame [0x02, 0x00, 0x08, 0x07, 0x03, 0x00, 0x01, 0x00, 0x02, 0xAA, 0xBB, 0x62, 0xED] =
      .data { slot := 7, gen := 3 } 1 [0xAA, 0xBB] := by decide +kernel

theorem test_frame_mark :
    decodeFrame [0x03, 0x00, 0x07, 0x07, 0x03, 0x00, 0x02, 0x01, 0x02, 0x01, 0xEC, 0x51] =
      .mark { slot := 7, gen := 3 } 2 1 2 1 := by decide +kernel

theorem test_frame_close :
    decodeFrame [0x04, 0x00, 0x04, 0x07, 0x03, 0x00, 0x03, 0x81, 0x10] = .close { slot := 7, gen := 3 } 3 := by
  decide +kernel

theorem test_frame_release :
    decodeFrame [0x06, 0x00, 0x02, 0x07, 0x03, 0x1B, 0x1D] = .release { slot := 7, gen := 3 } := by decide +kernel

theorem test_frame_set_pool :
    decodeFrame [0x10, 0x00, 0x08, 0x02, 0x00, 0x01, 0x05, 0x04, 0x00, 0x00, 0x00, 0x8B, 0x6D] =
      .setPool 0 1 [{ threshold := 5, fallback := 4 }] := by decide +kernel

theorem test_frame_set_lane_config :
    decodeFrame [0x10, 0x00, 0x0B, 0x03, 0x09, 0x01, 0x01, 0x02, 0x03, 0x4E, 0x20, 0x07, 0xD0, 0x1E, 0xA4, 0x6B] =
      .setLaneConfig 9 1 [{ pool := 2, zone := 3, stallCeiling := 20000, stallFloor := 2000, recoveryDelay := 30 }] := by
  decide +kernel

theorem test_frame_set_tariff :
    decodeFrame [0x10, 0x00, 0x0A, 0x06, 0x01, 0x01, 0x00, 0x10, 0x00, 0x20, 0x00, 0x30, 0x20, 0xEF, 0xF7] =
      .setTariff 1 1 [{ w0 := 16, w1 := 32, w2 := 48, duplex := 32 }] := by decide +kernel

theorem test_frame_set_account :
    decodeFrame [0x10, 0x00, 0x0A, 0x07, 0x7F, 0x01, 0x01, 0x80, 0x01, 0x00, 0x00, 0x10, 0x00, 0x91, 0x40] =
      .setAccount 127 1 [{ enabled := true, factor := 128, budget := some 4096 }] := by decide +kernel

theorem test_frame_set_zone :
    decodeFrame [0x10, 0x00, 0x0B, 0x0A, 0x02, 0x01, 0x19, 0x32, 0x32, 0xC8, 0x03, 0x00, 0x00, 0x00, 0x15, 0x68] =
      .setZone 2 1 [{ urgentOn := 25, urgentPeriod := 50, noticeOn := 50, noticePeriod := 200, escalation := 3 }] := by
  decide +kernel

theorem test_frame_set_system :
    decodeFrame [0x10, 0x00, 0x1D, 0x00, 0x00, 0x01, 0x00, 0x00, 0x04, 0x00, 0x00, 0x00, 0x02, 0x00, 0x02, 0x05, 0x00,
      0x00, 0x00, 0x00, 0x00, 0x00, 0x00, 0x00, 0x00, 0x00, 0x00, 0x00, 0x00, 0x00, 0x00, 0x00, 0xC0, 0xC7] =
      .setSystem 0 1 [{ high := 1024, low := 512, office := 2, retentionLost := true, alertOverflow := false,
                        responseOverflow := true }] := by decide +kernel

theorem test_frame_set_of_no_table :
    decodeFrame [0x10, 0x00, 0x03, 0x0B, 0x00, 0x01, 0x6F, 0x98] = .setOther (.unknown 11) 0 1 := by decide +kernel

theorem test_frame_get :
    decodeFrame [0x11, 0x00, 0x03, 0x07, 0x00, 0x10, 0x5D, 0x49] = .get 7 0 16 := by decide +kernel

theorem test_frame_ack_zone : decodeFrame [0x21, 0x00, 0x01, 0x03, 0xC6, 0x68] = .ackZone 3 := by decide +kernel

theorem test_frame_lane_control :
    decodeFrame [0x30, 0x00, 0x03, 0x05, 0x00, 0x00, 0x51, 0xB0] = .enable 5 ∧
      decodeFrame [0x30, 0x00, 0x03, 0x05, 0x01, 0x00, 0x62, 0x81] = .disable 5 ∧
      decodeFrame [0x30, 0x00, 0x03, 0x05, 0x02, 0x00, 0x37, 0xD2] = .init 5 ∧
      decodeFrame [0x30, 0x00, 0x03, 0x05, 0x03, 0x00, 0x04, 0xE3] = .resume 5 ∧
      decodeFrame [0x30, 0x00, 0x03, 0x03, 0x05, 0x00, 0x1C, 0xE5] = .cancelCommand 3 ∧
      decodeFrame [0x30, 0x00, 0x03, 0x03, 0x06, 0x00, 0x49, 0xB6] = .unknownKind (.laneAction 3 6) := by decide +kernel

theorem test_frame_unknown_kind :
    decodeFrame [0x40, 0x00, 0x00, 0xD1, 0x31] = .unknownKind (.frame 0x40) ∧ decodeFrame [] = .linkError := by
  decide +kernel

theorem test_token_credit : decodeToken 15 [0x42, 0x00, 0x01, 0x05, 0x64, 0xA0] = .printerCredit 15 5 := by decide +kernel

theorem test_token_discards :
    decodeToken 4 [0x44, 0x00, 0x00, 0x0D, 0xF1] = .tokenDiscard 4 ∧
      decodeToken 4 [0x41, 0x00, 0x01, 0x09, 0x3E, 0xF1] = .tokenDiscard 4 := by decide +kernel

theorem test_no_table_word_has_bits : decodeTableWord 8 5 = none := rfl

/-! ### Small states -/

/-- A field of the next state. -/
def after {α : Type} (o : Out) (f : State → α) : Option α :=
  match o with
  | .next t => some (f t)
  | _ => none

/-- A part with 32 blocks (watermarks 2 and 4), right after a reset, the link UP and nothing granted. -/
def base : State := State.cleared 32 0 true .lost

/-- `base` with class 2 in pool 1, account 3 enabled, 4 credits outstanding and watermarks 26 and 28, so that no grant of
8 is due. -/
def ready : State :=
  { base with
    classes := base.classes.set 2 { pool := some 1, priority := 2, holdOnOpen := false, threshold := none },
    meter := { base.meter with
      accounts := base.meter.accounts.set 3 { enabled := true, factor := 128, budget := none } },
    intake := { base.intake with outstanding := 4, low := 26, high := 28 } }

/-- A mark: media 0, simplex, mono. -/
def plain : Mark := { media := 0, sides := .one, colour := .mono }

/-- An open FILLING job of tag 17, class 2, account 3: one sheet of a mark and 4 payload bytes in block 0. -/
def filling : Job :=
  { Job.freed 3 with
    state := .filling, tag := 17, cls := 2, pool := 1, account := 3, isOpen := true, stored := 1, nextSeq := 2,
    chain := [{ block := 0, ordinal := 0 }], prologueEnd := some 0, storedEnd := 16, restart := .fixed 0,
    items := [{ pos := 0, body := .mark plain }, { pos := 8, body := .run 4 }] }

/-- The handle of the job in slot 7. -/
def h7 : Handle := { slot := 7, gen := 3 }

/-- `ready` with a job in slot 7, its content in block 0. -/
def holding (j : Job) : State :=
  { (ready.setJob 7 j) with
    jobs := { slots := (ready.setJob 7 j).jobs.slots, openList := [7], endList := if j.state = .done then [7] else [] },
    store := { ready.store with
      free := List.range' 1 31,
      dram := (List.range 16).map (fun a => (a, BitVec.ofNat 8 a)) } }

/-- The job of slot 7, PRINTING on lane 4. -/
def printing : Job := { filling with state := .printing, lane := some 4 }

/-- Lane 4, enabled, in pool 1 and zone 2, SENDING the job of slot 7 from its mark with a ready printer. -/
def sending : Lane :=
  { Lane.fresh with
    enabled := true, pool := some 1, effPool := some 1, zone := 2, state := .sending, job := some h7, credits := 5,
    mirror := 1, pollTimer := some { start := 0, length := 50 } }

/-- `holding` with lane 4. -/
def busy (j : Job) (x : Lane) : State := (holding j).setLane 4 x

/-- A lane of pool 1 that is IDLE. -/
def idling : Lane := { sending with state := .idle, job := none, pollTimer := some { start := 0, length := 500 } }

/-- Sheet 0 of the job of slot 7 in flight, at a charge of 256. -/
def sheet0 : InFlight := { job := h7, sheet := 0, charge := 256, markPos := 0, account := 3 }

/-- `busy` with sheet 0 sent and in flight, its charge reserved and its stall timer at the ceiling. -/
def flying (j : Job → Job) (x : Lane → Lane) : State :=
  let s := busy (j { printing with nextUnsent := 1, inFlight := 1, restart := .following })
    (x { sending with inFlight := [sheet0], sendPos := 8, inSheet := true,
                      stallTimer := some { start := 0, length := 20000 } })
  { s with meter := s.meter.setReserved 3 256 }

/-- An alert entry of lane 4 in zone 2, raised at time 0. -/
def entry (kind : AlertKind) : AlertEntry :=
  { source := .lane 4, kind := kind, zone := 2, first := 0, last := 0, occurrences := 1, sent := false,
    inFlight := false, raisedInFlight := false }

/-- Zone 2 URGENT, its first period just begun. -/
def urgentZone : Zone :=
  { Zone.fresh with display := .urgent, generator := some { start := 0, on := 25, period := 50, high := true } }

/-- A part whose alert queue holds a JAM and a COVER OPEN of lane 4, zone 2 lit. -/
def alarmed : State :=
  { ready with alerts := { ready.alerts with
      queue := [entry .jam, entry .coverOpen], zones := ready.alerts.zones.set 2 urgentZone } }

/-- A state with its time moved to `t`. -/
def at_ (t : Nat) (s : State) : State := { s with time := BitVec.ofNat 32 t }

/-- A state with zone 2 replaced. -/
def withZone (x : Zone) (s : State) : State :=
  { s with alerts := { s.alerts with zones := s.alerts.zones.set 2 x } }

/-- A state with another alert queue. -/
def withQueue (q : List AlertEntry) (s : State) : State := { s with alerts := { s.alerts with queue := q } }

/-- A state with another meter bank. -/
def withBank (b : MeterBank) (s : State) : State := { s with meter := { s.meter with bank := b } }

/-- A valid bank in which account 3 alone has a meter. -/
def bankOf (m : AccountMeter) : MeterBank :=
  { base.meter.bank with retentionLost := false, meters := base.meter.bank.meters.set 3 m }

/-- A state with a frame in flight on the uplink. -/
def sendingUp (f : UplinkFrame) (s : State) : State := { s with link := { s.link with tx := some f } }

/-- The JOB END of the job of slot 7, COMPLETED. -/
def endOf7 : JobEnd :=
  { tag := 17, handle := h7, outcome := some .completed, stored := 1, delivered := 1, spoiled := 0, charge := 256,
    split := false, forced := false, truncated := false }

/-- A lane that is enabled and DOWN after two misses. -/
def down : Lane :=
  { Lane.fresh with
    enabled := true, pool := some 1, effPool := some 1, state := .down, misses := 2,
    pollTimer := some { start := 0, length := 1000 } }

/-- A state with its response queue full. -/
def full (s : State) : State :=
  { s with link := { s.link with responses := List.replicate 16 (.refuse 0 .busy .nothing) } }

/-! ### Steps: jobs and content -/

theorem test_open :
    after (exec (.openJob 17 2 3) ready) (fun t => ((t.job 0).state, (t.job 0).tag, (t.job 0).pool, t.link.responses)) =
      some (.filling, 17, 1, [.opened 17 { slot := 0, gen := 0 }]) := by decide +kernel

theorem test_open_without_route :
    after (exec (.openJob 17 5 3) ready) (fun t => t.link.responses) = some [.refuse 0x01 .noRoute (.tag 17)] := by
  decide +kernel

/-- R27, R31: a head of 4 bytes at 16, so the payload stands from 20, and the stored end is 16 + 4 + 2. -/
theorem test_data :
    after (exec (.data h7 2 [0xAA, 0xBB]) (holding filling)) (fun t => ((t.job 7).storedEnd, t.store.dram.read 20,
      t.store.dram.read 21, t.intake.outstanding)) = some (22, some 0xAA, some 0xBB, 3) := by decide +kernel

/-- R33: a wrong sequence number fails the job; the credit is spent. -/
theorem test_data_out_of_sequence :
    after (exec (.data h7 5 [0xAA]) (holding filling)) (fun t => ((t.job 7).outcome, t.intake.outstanding, t.store.free)) =
      some (some (.failed .sequence), 3, List.range' 1 31 ++ [0]) := by decide +kernel

/-- R32: media 20, sides 5 and colour 9 are stored as 15, 2 and 2 (full). -/
theorem test_mark_clamps :
    after (exec (.mark h7 2 20 5 9) (holding filling)) (fun t => ((t.job 7).stored, (t.job 7).markAt 16)) =
      some (2, some { media := 15, sides := .two, colour := .full }) := by decide +kernel

/-- R29: a MARK of a closed job is refused. R75: one stored at the send position of a lane in a sheet ends the sheet. -/
theorem test_mark_closed_and_reached :
    after (exec (.mark h7 2 0 1 0) (holding { filling with state := .ready, isOpen := false }))
        (fun t => (t.link.responses, t.intake.outstanding)) = some ([.refuse 0x03 .wrongState (.handle h7)], 3) ∧
      after (exec (.mark h7 2 0 1 0) (busy printing { sending with sendPos := 16, inSheet := true }))
        (fun t => ((t.lane 4).inSheet, (t.lane 4).state)) = some (false, .sending) := by decide +kernel

theorem test_close_makes_ready :
    after (exec (.close h7 2) (at_ 9 (holding filling))) (fun t => ((t.job 7).state, (t.job 7).readySince,
      (t.job 7).isOpen)) = some (.ready, 9, false) := by decide +kernel

theorem test_close_of_an_empty_job :
    after (exec (.close h7 2) (holding { filling with stored := 0, items := [] })) (fun t => (t.job 7).outcome) =
      some (some .completed) := by decide +kernel

theorem test_cancel :
    after (exec (.cancel h7) (holding filling)) (fun t => ((t.job 7).outcome, t.jobs.endList)) =
      some (some .cancelled, [7]) := by decide +kernel

theorem test_cancel_of_a_failing_job :
    after (exec (.cancel h7) (busy { printing with stop := some (.fail .overrun) } sending)) (fun t => t.link.responses) =
      some [.refuse 0x05 .tooLate (.handle h7)] := by decide +kernel

theorem test_release :
    after (exec (.release h7) (holding { filling with state := .held, holdReason := some .operator }))
      (fun t => ((t.job 7).state, (t.job 7).holdReason)) = some (.filling, none) := by decide +kernel

theorem test_release_of_a_budget_hold :
    after (exec (.release h7) (holding { filling with state := .held, holdReason := some .budget }))
      (fun t => t.link.responses) = some [.refuse 0x06 .wrongState (.handle h7)] := by decide +kernel

/-! ### Steps: tables -/

/-- R40: 100 is held at the 32 blocks, and 40 below it. -/
theorem test_set_system :
    after (exec (.setSystem 0 1
        [{ high := 100, low := 40, office := 9, retentionLost := false, alertOverflow := true,
           responseOverflow := true }]) base) (fun t => (t.intake.high, t.intake.low, t.alerts.office,
        t.meter.bank.retentionLost)) = some (32, 31, 3, false) := by decide +kernel

theorem test_set_class :
    after (exec (.setClass 63 2 [{ pool := 8, priority := 9, holdOnOpen := true, threshold := 0 },
      { pool := 7, priority := 0, holdOnOpen := false, threshold := 5 }]) base) (fun t => (t.classes[63], t.classes[48])) =
      some ({ pool := none, priority := 3, holdOnOpen := true, threshold := none },
        { pool := some 7, priority := 0, holdOnOpen := false, threshold := some 5 }) := by decide +kernel

theorem test_set_pool :
    after (exec (.setPool 3 1 [{ threshold := 200, fallback := 3 }]) base) (fun t => t.pool 3) =
      some { threshold := 200, fallback := none, rotor := 0 } := by decide +kernel

theorem test_set_lane_config :
    after (exec (.setLaneConfig 4 1 [{ pool := 6, zone := 9, stallCeiling := 50, stallFloor := 5000, recoveryDelay := 1 }])
      (busy printing sending)) (fun t => ((t.lane 4).pool, (t.lane 4).effPool, (t.lane 4).zone, (t.lane 4).stallCeiling,
        (t.lane 4).stallFloor)) = some (some 6, some 1, 3, 100, 100) := by decide +kernel

theorem test_set_tariff :
    after (exec (.setTariff 15 1 [{ w0 := 5000, w1 := 4095, w2 := 0, duplex := 40 }]) base) (fun t => t.meter.tariff[15]) =
      some { w0 := 4095, w1 := 4095, w2 := 0, duplex := 32 } := by decide +kernel

/-- R130: the budget that held the job is gone, so it is READY. -/
theorem test_set_account_releases_a_budget_hold :
    after (exec (.setAccount 3 1 [{ enabled := true, factor := 100, budget := none }])
      (holding { filling with state := .held, holdReason := some .budget }))
      (fun t => ((t.job 7).state, t.meter.accounts[3].factor)) = some (.ready, 100) := by decide +kernel

/-- R154: a setting that the count has reached escalates the zone at once. -/
theorem test_set_zone :
    after (exec (.setZone 2 1 [{ urgentOn := 1, urgentPeriod := 0, noticeOn := 2, noticePeriod := 9, escalation := 3 }])
      (withZone { urgentZone with count := 3 } alarmed))
      (fun t => ((t.zone 2).urgentPeriod, (t.zone 2).escalated, (t.zone 2).generator)) =
      some (1, true, urgentZone.generator) := by decide +kernel

theorem test_set_of_a_read_only_table :
    after (exec (.setOther .job 0 1) base) (fun t => t.link.responses) =
      some [.refuse 0x10 .readOnly (.tableRow 8 0)] := by decide +kernel

/-- The worked example of 09: GET JOB 0x1E, 4 and GET ZONE 2, 6. -/
theorem test_get_wraps_in_its_page :
    after (exec (.get 8 0x1E 4) base) (fun t => t.link.replies) = some [.rows .job 0x1E [0x1E, 0x1F, 0x10, 0x11]] ∧
      after (exec (.get 10 2 6) base) (fun t => t.link.replies) = some [.rows .zone 2 [2, 3, 0, 1]] := by decide +kernel

/-- The worked example of 07: METER READ 26, 12. -/
theorem test_meter_read :
    after (exec (.meterRead 26 12 true) base) (fun t => t.meter.hold) =
      some (some [26, 27, 28, 29, 30, 31, 16, 17, 18, 19, 20, 21]) := by decide +kernel

/-! ### Steps: alerts, zones, time -/

/-- R153: the zone falls from URGENT to NOTICE, and a period of the notice pattern starts at once. -/
theorem test_ack_alert :
    after (exec (.ackAlert 0 4 0) (at_ 7 alarmed))
      (fun t => (t.alerts.queue, (t.zone 2).display, (t.zone 2).generator)) =
      some ([entry .coverOpen], .notice, some { start := 7, on := 50, period := 200, high := true }) := by decide +kernel

theorem test_ack_alert_stale :
    after (exec (.ackAlert 0 4 1) alarmed) (fun t => t.link.responses) = some [.refuse 0x20 .stale (.alertKey 0 4 1)] := by
  decide +kernel

theorem test_ack_zone_keeps_pending_entries :
    after (exec (.ackZone 2) (withQueue [entry .jam, { entry .coverOpen with sent := true }] alarmed))
      (fun t => t.alerts.queue) =
      some [entry .jam] := by decide +kernel

/-- The worked example of 08: the period of 50 ticks ends after 500 ms, and is counted. -/
theorem test_beacon_period :
    after (exec (.beaconPeriodEnd 2) (at_ 500 alarmed)) (fun t => ((t.zone 2).count, (t.zone 2).generator)) =
      some (1, some { start := 500, on := 25, period := 50, high := true }) ∧
    after (exec (.beaconPeriodEnd 2) (at_ 499 alarmed)) (fun t => (t.zone 2).count) = some 0 := by decide +kernel

theorem test_beacon_on :
    after (exec (.beaconOnEnd 2) (at_ 250 alarmed)) (fun t => t.beaconPin 2) = some false ∧
      alarmed.beaconPin 2 = true := by decide +kernel

/-- R154: the count rises to 1 at the end of the period, and the check is made then. -/
theorem test_escalation_at_a_period :
    after (exec (.beaconPeriodEnd 2) (at_ 500 (withZone { urgentZone with escalation := 1 } alarmed)))
      (fun t => t.escalatePin 2) = some true := by decide +kernel

theorem test_zone_escalate :
    after (exec (.zoneEscalate 2) (withZone { urgentZone with count := 4, escalation := 4 } alarmed))
      (fun t => (t.escalatePin 2, t.beaconPin 2)) = some (true, true) := by decide +kernel

theorem test_time_wraps : after (exec .timeTick { base with time := 0xFFFFFFFF }) (fun t => t.time) = some 0 := by
  decide +kernel

/-! ### Steps: LANE CONTROL -/

theorem test_enable :
    after (exec (.enable 4) base) (fun t => ((t.lane 4).enabled, (t.lane 4).state, (t.lane 4).pollTimer)) =
      some (true, .down, some { start := 0, length := 1000 }) := by decide +kernel

theorem test_disable_drains_a_busy_lane :
    after (exec (.disable 4) (flying id (fun x => { x with inSheet := false }))) (fun t => ((t.lane 4).state,
      (t.job 7).stop, (t.lane 4).enabled)) = some (.draining, some .requeue, false) := by decide +kernel

theorem test_init_spoils_what_is_in_flight :
    after (exec (.init 4) (flying id id)) (fun t => ((t.lane 4).state, (t.job 7).split, (t.job 7).spoiled,
      (t.job 7).nextUnsent, t.meter.reserved[3], (t.job 7).state)) = some (.down, true, 1, 0, 0, .ready) := by decide +kernel

theorem test_resume :
    after (exec (.resume 4) (at_ 7 (busy printing { sending with state := .jammed, stallCaused := true })))
      (fun t => ((t.lane 4).state, (t.lane 4).recoveryTimer)) =
      some (.recovering, some { start := 7, length := 3000 }) := by decide +kernel

theorem test_resume_refused :
    after (exec (.resume 4) (busy printing sending)) (fun t => t.link.responses) =
      some [.refuse 0x30 .wrongState (.laneAction 4 3)] := by decide +kernel

theorem test_command :
    after (exec (.command 4 0x42) (busy printing sending)) (fun t => (t.lane 4).command) = some (some 0x42) ∧
      after (exec (.command 4 0x42) base) (fun t => t.link.responses) =
        some [.refuse 0x30 .wrongState (.laneAction 4 4)] := by decide +kernel

theorem test_cancel_command :
    after (exec (.cancelCommand 4) (busy printing { sending with command := some 1 })) (fun t => (t.lane 4).command) =
      some none ∧
    after (exec (.cancelCommand 4) base) (fun t => t.link.responses) =
      some [.refuse 0x30 .tooLate (.laneAction 4 5)] := by decide +kernel

/-! ### Steps: the link -/

/-- R168: the tables and the job are gone, the block count stays. -/
theorem test_reset :
    after (exec .reset (holding filling)) (fun t => ((t.job 7).gen, t.classes[2].pool, t.store.blockCount, t.time)) =
      some (0, none, 32, 0) := by decide +kernel

theorem test_unknown_kind :
    after (exec (.unknownKind (.frame 0x40)) base) (fun t => t.link.responses) =
      some [.refuse 0x40 .unknownKind .nothing] := by decide +kernel

theorem test_link_error_saturates :
    after (exec .linkError { base with link := { base.link with errors := 65535 } }) (fun t => t.link.errors) =
      some 65535 := by decide +kernel

/-- R164: a waiting CREDIT goes before a response. -/
theorem test_uplink_frame_start :
    after (exec .uplinkFrameStart { full base with intake := { base.intake with waiting := some 9 } })
      (fun t => (t.link.tx, t.intake.waiting)) = some (some (.credit 9), none) := by decide +kernel

/-- R145: with the queues empty the URGENT entry goes, and is in flight. -/
theorem test_uplink_alert :
    after (exec .uplinkFrameStart alarmed) (fun t => t.alerts.queue.map AlertEntry.inFlight) = some [true, false] := by
  decide +kernel

/-- R92: serialising a LANE STATE row clears its lane's delta flags. -/
theorem test_serialise_row :
    after (exec .serialiseRow (sendingUp (.getReply .laneState 4 [4] []) (busy printing { sending with delta := 9 })))
      (fun t => (t.lane 4).delta) = some 0 := by decide +kernel

theorem test_serialise_record :
    after (exec .serialiseRow (sendingUp (.meterReply 3 [3] true [] none) (flying id id))) (fun t => t.link.tx) =
      some (some (.meterReply 3 [3] true
        [{ account := 3, total := 0, sheets := 0, reserved := 256, saturated := false }] none)) := by decide +kernel

theorem test_credit_handover :
    after (exec .creditHandover (sendingUp (.credit 8) { base with intake := { base.intake with kept := 5 } }))
      (fun t => (t.intake.waiting, t.intake.kept, t.link.tx)) = some (some 5, 0, none) := by decide +kernel

theorem test_response_handover :
    after (exec .responseHandover (sendingUp (.response (.refuse 0 .busy .nothing)) (full base)))
      (fun t => t.link.responses.length) = some 15 := by decide +kernel

/-- R146: an entry raised in flight is PENDING again; one that was not is SENT. -/
theorem test_alert_handover :
    after (exec .alertHandover (sendingUp
        (.alert { source := .lane 4, kind := .jam, zone := 2, first := 0, last := 0, occurrences := 1, overflow := false })
      (withQueue [{ entry .jam with inFlight := true }, entry .coverOpen] alarmed)))
      (fun t => t.alerts.queue) = some [{ entry .jam with sent := true }, entry .coverOpen] := by decide +kernel

/-- R135: 10,512 falls by the 10,000 reported. -/
theorem test_reply_handover :
    after (exec .replyHandover (sendingUp (.meterReply 3 [3] true
        [{ account := 3, total := 10000, sheets := 2, reserved := 0, saturated := false }] (some false))
      (withBank (bankOf { total := 10512, sheets := 3, saturated := true }) base)))
      (fun t => t.meter.bank.meters[3]) = some { total := 512, sheets := 1, saturated := true } := by decide +kernel

/-- R22: the slot is FREE, its generation one higher. -/
theorem test_job_end_handover :
    after (exec .jobEndHandover (sendingUp (.jobEnd endOf7)
      (holding { filling with state := .done, isOpen := false, outcome := some .completed, chain := [] })))
      (fun t => (t.job 7, t.jobs.openList, t.jobs.endList)) = some (Job.freed 4, [], []) := by decide +kernel

theorem test_link_down :
    after (exec .linkDown (holding filling)) (fun t => ((t.job 7).outcome, t.intake.outstanding, t.link.up)) =
      some (some (.failed .linkLost), 0, false) := by decide +kernel

/-- R18, R65: with a lane IDLE, an open READY job still ends at once. -/
theorem test_link_down_assigns_no_open_job :
    after (exec .linkDown ((holding { filling with state := .ready }).setLane 5 idling))
      (fun t => ((t.job 7).outcome, (t.lane 5).state)) = some (some (.failed .linkLost), .idle) := by decide +kernel

/-- R43: 32 blocks above the low watermark 2 give min(64, 30). -/
theorem test_link_up :
    after (exec .linkUp { base with link := { base.link with up := false, lineInSync := false } })
      (fun t => (t.link.up, t.intake.outstanding, t.intake.waiting)) = some (true, 30, some 30) := by decide +kernel

/-! ### Steps: supplies -/

/-- A part in HALTED, the line out of sync. -/
def halted : State :=
  { base with supply := { halted := true, bankValid := true }, link := { base.link with up := false, lineInSync := false } }

theorem test_supply_drop :
    after (exec .supplyDrop alarmed) (fun t => (t.supply.halted, t.beaconPin 2)) = some (true, false) := by decide +kernel

theorem test_backup_supply_loss :
    after (exec .backupSupplyLoss halted) (fun t => t.supply.bankValid) = some false := by decide +kernel

/-- R138: a bank that stayed valid is kept, and 8,192 blocks are loaded from the straps. -/
theorem test_supply_rise :
    after (exec .supplyRise (withBank (bankOf { total := 9, sheets := 1, saturated := false }) halted))
      (fun t => (t.supply.halted, t.meter.bank.meters[3].total, t.meter.bank.retentionLost, t.store.blockCount)) =
      some (false, 9, false, 8192) := by decide +kernel

theorem test_reset_pin :
    after (exec .resetPin { alarmed with link := halted.link, supply := { halted := false, bankValid := false } })
      (fun t => (t.supply.bankValid, t.meter.bank.retentionLost, t.alerts.queue.map AlertEntry.kind)) =
      some (true, true, [.retentionLost]) := by decide +kernel

/-! ### Steps: printer tokens and lane events -/

/-- R98, R99, R100: a jam spoils sheet 0 and the job stays on its lane. -/
theorem test_status_jam :
    after (exec (.status 4 0x19) (flying id id)) (fun t => ((t.lane 4).state, (t.lane 4).inFlight, (t.job 7).spoiled,
      (t.lane 4).delta, t.alerts.queue.map AlertEntry.kind)) = some (.jammed, [], 1, 0x18, [.jam, .coverOpen]) := by
  decide +kernel

/-- R93: a DOWN lane comes up IDLE. R94: a PAUSED one goes on when its printer is ready, its stall timer started again. -/
theorem test_status_of_a_ready_printer :
    after (exec (.status 4 1) (ready.setLane 4 down))
        (fun t => ((t.lane 4).state, (t.lane 4).misses, t.alerts.queue.map AlertEntry.kind)) =
        some (.idle, 0, [.laneUp]) ∧
      after (exec (.status 4 1) (at_ 9 (flying id (fun x =>
          { x with state := .paused, resume := some .sending, mirror := 4, stallTimer := none }))))
        (fun t => ((t.lane 4).state, (t.lane 4).resume, (t.lane 4).stallTimer)) =
        some (.sending, none, some { start := 9, length := 20000 }) := by decide +kernel

theorem test_printer_credit :
    after (exec (.printerCredit 4 200) (busy printing sending)) (fun t => (t.lane 4).credits) = some 63 ∧
      after (exec (.printerCredit 4 3) (busy printing sending)) (fun t => (t.lane 4).credits) = some 8 := by decide +kernel

theorem test_sheet_out :
    after (exec (.sheetOut 4) (flying id id)) (fun t => ((t.job 7).delivered, (t.job 7).charge,
        t.meter.bank.meters[3].total, t.meter.reserved[3], t.meter.bank.counters[4].delivered)) =
        some (1, 256, 256, 0, 1) ∧
      after (exec (.sheetOut 4) (busy printing sending)) (fun t => (t.meter.bank.counters[4].phantoms,
        t.alerts.queue.map AlertEntry.kind)) = some (1, [.phantomSheet]) := by decide +kernel

theorem test_token_discard :
    after (exec (.tokenDiscard 4) (busy printing { sending with misses := 2, pollOut := true }))
      (fun t => ((t.lane 4).misses, (t.lane 4).pollOut)) = some (2, true) := by decide +kernel

theorem test_poll_timer :
    after (exec (.pollTimerExpiry 4) (at_ 50 (busy printing sending))) (fun t => ((t.lane 4).pollDue, (t.lane 4).pollTimer)) =
      some (true, some { start := 50, length := 50 }) ∧
    after (exec (.pollTimerExpiry 4) (at_ 49 (busy printing sending))) (fun t => (t.lane 4).pollDue) = some false := by
  decide +kernel

theorem test_poll_send_counts_a_miss :
    after (exec (.pollSend 4) (busy printing { sending with pollDue := true, pollOut := true, misses := 1 }))
      (fun t => ((t.lane 4).misses, (t.lane 4).lastToken)) = some (2, some .poll) := by decide +kernel

theorem test_command_send :
    after (exec (.commandSend 4) (busy printing { sending with command := some 0x42 }))
      (fun t => ((t.lane 4).command, (t.lane 4).lastToken)) = some (none, some (.command 0x42)) := by decide +kernel

/-- R76, R77, R115: the mark's sheet begins: W 16, F 16, A 128 give a charge of 256, and the ceiling is the stall limit. -/
theorem test_lane_read_begins_a_sheet :
    after (exec (.laneRead 4) (busy printing sending)) (fun t => ((t.lane 4).inFlight, t.meter.reserved[3],
      (t.lane 4).sendPos, (t.lane 4).lastToken, (t.lane 4).stallTimer)) =
      some ([sheet0], 256, 8, some (.sheetBegin 17 0 plain), some { start := 0, length := 20000 }) := by decide +kernel

/-- R46: past the 4-byte head at 8 stand the 4 payload bytes 12 to 15. -/
theorem test_lane_read_sends_data :
    after (exec (.laneRead 4) (flying id id)) (fun t => ((t.lane 4).lastToken, (t.lane 4).sendPos, (t.lane 4).credits)) =
      some (some (.data [12, 13, 14, 15]), 16, 4) := by decide +kernel

theorem test_job_stream :
    after (exec (.jobStreamTokenTaken 4) (busy printing { sending with stream := [.jobBegin 17 false, .jobFinish] }))
      (fun t => ((t.lane 4).lastToken, (t.lane 4).stream)) = some (some (.jobBegin 17 false), [.jobFinish]) := by
  decide +kernel

/-- R96: the third missed POLL, in the operation of the POLL itself. -/
theorem test_poll_send_at_the_third_miss :
    let s := flying id (fun x => { x with pollDue := true, pollOut := true, misses := 2 })
    after (exec (.pollSend 4) s) (fun t => ((t.lane 4).state, t.alerts.queue.map AlertEntry.kind)) =
        some (.down, [.laneDown]) ∧
      after (exec (.laneLoss 4) s) (fun t => ((t.lane 4).state, (t.lane 4).misses, (t.job 7).state)) =
        some (.down, 0, .ready) := by decide +kernel

theorem test_lane_loss :
    after (exec (.laneLoss 4) (flying id (fun x => { x with misses := 3 }))) (fun t => ((t.lane 4).state, (t.job 7).state,
      t.alerts.queue.map AlertEntry.kind, t.meter.bank.counters[4].spoiled)) =
      some (.down, .ready, [.laneDown], 1) := by decide +kernel

theorem test_stall_expiry :
    after (exec (.stallExpiry 4) (at_ 20000 (flying id id))) (fun t => ((t.lane 4).state, (t.lane 4).stallCaused,
      t.meter.bank.counters[4].stalls, t.alerts.queue.map AlertEntry.kind)) = some (.jammed, true, 1, [.stall]) := by
  decide +kernel

theorem test_recovery :
    after (exec (.recoveryTimerExpiry 4) (at_ 3000 (busy { printing with delivered := 1 }
        { sending with state := .recovering, recoveryTimer := some { start := 0, length := 3000 } })))
      (fun t => ((t.lane 4).state, (t.lane 4).stream)) = some (.sending, [.jobBegin 17 true]) := by decide +kernel

/-! ### Worked examples of the manual -/

/-- 05, the table of stall limits. -/
theorem test_stall_limits :
    [none, some 300, some 1300, some 4999, some 6000, some 65535].map
      (fun c => ({ Lane.fresh with capture := c } : Lane).stallLimit) = [20000, 2000, 5200, 19996, 20000, 20000] := by
  decide +kernel

/-- 03, the pass with the rotor: from rotor 4 lane 11 is found, from 12 lane 3. -/
theorem test_rotor :
    let s := (base.setLane 3 { idling with effPool := some 2 }).setLane 11 { idling with effPool := some 2 }
    (s.setPool 2 { threshold := 0, fallback := none, rotor := 4 }).chooseLane 2 = some 11 ∧
      (s.setPool 2 { threshold := 0, fallback := none, rotor := 12 }).chooseLane 2 = some 3 := by decide +kernel

/-- 02, credits at the low watermark: 28 blocks above it with 20 outstanding give 8; 3 above it with none give 3; 4 above it
with one outstanding give none. -/
theorem test_grants :
    let s (free outstanding : Nat) : State := { base with
      store := { base.store with free := List.range free },
      intake := { base.intake with low := 2, high := 40, outstanding := outstanding } }
    (s 30 20).evalGrant.intake.outstanding = 28 ∧ (s 5 0).evalGrant.intake.outstanding = 3 ∧
      (s 6 1).evalGrant.intake.outstanding = 1 := by decide +kernel

/-- R1, R42, R165, log entry 43: 60 waiting and a grant of 8 are 64, and 60 in flight leave room for 4 of it. -/
theorem test_grants_saturate :
    let s (waiting : Option Nat) : State := { base with
      store := { base.store with free := List.range 30 },
      intake := { base.intake with low := 2, high := 40, outstanding := 20, waiting := waiting } }
    let f (t : State) := (t.intake.outstanding, t.intake.waiting, t.intake.kept)
    f (s (some 60)).evalGrant = (28, some 64, 0) ∧ f (sendingUp (.credit 60) (s none)).evalGrant = (28, none, 4) := by
  decide +kernel

/-- 07, the budget stop: 1,800 metered and 512 reserved let no sheet of 256 through a budget of 10 units. -/
theorem test_budget_stop :
    let u : MeterUnit := { base.meter with
      accounts := base.meter.accounts.set 3 { enabled := true, factor := 128, budget := some 10 },
      bank := bankOf { total := 1800, sheets := 0, saturated := false } }
    (u.setReserved 3 256).passes 3 256 = true ∧ (u.setReserved 3 512).passes 3 256 = false := by decide +kernel

/-! ### Witnesses: for each statement with hypotheses, states and operands that meet them, clause by clause -/

/-- A state that meets every law, with a sheet in flight, an IDLE lane, lit alerts and a tick waiting. -/
def lawful : State :=
  let s := (flying id id).setLane 5 idling
  { s with pending := [.timeTick], store := { s.store with blockCount := 8192 }, alerts := alarmed.alerts }

/-- The slots of `holding` other than 7 are FREE. -/
theorem holding_job (j : Job) (i : Slot) (h : i ≠ 7) : (holding j).job i = Job.freed 0 := by
  simp only [holding, State.setJob, State.job, ready, base, State.cleared]
  exact (Vector.getElem_set_ne _ _ (fun e => h (Fin.ext e.symm))).trans (Vector.getElem_replicate _)

/-- Slot 7 is the only one of `holding` that is not FREE. -/
theorem holding_only (j : Job) (k : Slot) (h : ((holding j).job k).state ≠ .free) : k = 7 := by
  refine Classical.byContradiction fun hk => h ?_
  rw [holding_job _ _ hk]; rfl

theorem holding_tags (j : Job) : (holding j).TagLaw := fun i k h hi hk =>
  absurd ((holding_only j i hi).trans (holding_only j k hk).symm) h

/-- Nothing of a FILLING job of `holding` has been sent, where nothing of the one in slot 7 has. -/
theorem holding_unsent (j : Job)
    (h : j.restart = (match j.prologueEnd with | some p => .fixed p | none => .following)) :
    (holding j).FillingUnsent := fun i hi => by
  have h7 : i = 7 := holding_only j i (by rw [hi]; decide)
  subst h7
  have e : (holding j).job 7 = j := Vector.getElem_set_self _
  rw [e]; exact h

theorem witness_CommandsKeepTheQueueAndRun :
    (Instr.timeTick).touchesContent = false ∧ after (exec .timeTick base) State.pending = some [] := by decide +kernel

theorem witness_TakenContentFindsItsBlock_StepKeepsIntakeLaw :
    lawful.IntakeLaw ∧ after (step lawful) State.time = some 1 := by
  delta State.IntakeLaw; decide +kernel

theorem witness_HaltedAndDownPartsDoNothing :
    halted.supply.halted = true ∧ Instr.timeTick ≠ .supplyRise ∧ Instr.timeTick ≠ .backupSupplyLoss ∧
      halted.link.up = false ∧ (Instr.get 0 0 1).needsLink = true ∧ Instr.linkError.needsLink = true := by decide +kernel

theorem witness_RequestsWithoutRoomAndLinkErrors :
    (Instr.get 0 0 1).wellFormed = true ∧ (Instr.get 0 0 1).needsRoom = true ∧ (full base).Receives ∧
      16 ≤ (full base).link.responses.length ∧ base.Receives ∧ (Instr.data h7 0 []).wellFormed = false ∧
      (Instr.setPool 0 1 []).sets ≠ none ∧ (Instr.setPool 0 1 []).wellFormed = false ∧
      SetTarget.job.fits 82 = false := by decide +kernel

theorem witness_OtherCommandsKeepStoredBytes :
    (after (exec (.cancel h7) (holding filling)) State.time = some 0 ∧ (Instr.cancel h7).touchesContent = false) ∧
      after (exec (.laneRead 4) (busy printing sending)) State.time = some 0 := by decide +kernel

theorem witness_SettingsTimeAndGenerationsMoveOnlyByTheirCommands :
    after (exec (.setPool 0 1 [{ threshold := 1, fallback := 1 }]) base) State.time = some 0 ∧
      (Instr.setPool 0 1 [{ threshold := 1, fallback := 1 }]).resets = false ∧
      (Instr.setPool 0 1 [{ threshold := 1, fallback := 1 }]).sets ≠ some .cls ∧
      (Instr.setClass 0 1 [{ pool := 1, priority := 1, holdOnOpen := false, threshold := 1 }]).sets ≠ some .pool := by
  decide +kernel

theorem witness_LaneEventsReachOnlyTheirLane :
    (Instr.sheetOut 4).onLane = some 4 ∧ after (exec (.sheetOut 4) (flying id id)) State.time = some 0 ∧
      (5 : LaneId) ≠ 4 ∧ ((flying id id).lane 5).state ≠ .idle ∧ ((flying id id).job 8).state ≠ .filling ∧
      ((flying id id).job 8).state ≠ .ready ∧ ((flying id id).lane 4).job = some h7 ∧
      (∀ e ∈ ((flying id id).lane 4).inFlight, e.job.slot ≠ 8) ∧ Instr.laneRead 4 ≠ .sheetOut 4 := by decide +kernel

theorem witness_StepKeepsStoreAndQueueLaws :
    lawful.StoreLaw ∧ lawful.QueueLaw ∧ after (step lawful) State.time = some 1 := by
  delta State.StoreLaw State.QueueLaw; decide +kernel

theorem witness_StepKeepsAlertAndZoneLaws : lawful.AlertLaw ∧ lawful.ZoneLaw ∧ after (step lawful) State.time = some 1 := by
  delta State.AlertLaw State.ZoneLaw; decide +kernel

/-- A lane of `lawful` has no capture. -/
theorem lawful_capture : ∀ l : LaneId, (lawful.lane l).capture = none := by decide +kernel

theorem witness_StepKeepsLaneLaw : lawful.LaneLaw ∧ after (step lawful) State.time = some 1 := by
  refine ⟨fun l => ?_, by decide +kernel⟩
  have h : ∀ l : LaneId, ((lawful.lane l).credits ≤ 63 ∧ (lawful.lane l).inFlight.length ≤ 32 ∧
      (lawful.lane l).misses ≤ 3) ∧ 100 ≤ (lawful.lane l).stallFloor ∧
      (lawful.lane l).stallFloor ≤ (lawful.lane l).stallCeiling ∧ (lawful.lane l).stallCeiling ≤ 65535 ∧
      ((lawful.lane l).state = .offline ∨ (lawful.lane l).state = .down →
        (lawful.lane l).credits = 0 ∧ (lawful.lane l).command = none) ∧
      ((lawful.lane l).state = .offline ↔ (lawful.lane l).pollTimer = none) ∧
      ((lawful.lane l).state = .paused ↔ (lawful.lane l).resume ≠ none) ∧
      ((lawful.lane l).stallCaused = true → (lawful.lane l).state = .jammed) ∧
      ((lawful.lane l).state ∈ [LaneState.offline, .down, .idle] → (lawful.lane l).job = none) ∧
      ((lawful.lane l).state ∈ [LaneState.sending, .starved, .paused, .draining, .recovering] →
        (lawful.lane l).job ≠ none) := by decide +kernel
  exact ⟨(h l).1.1, (h l).1.2.1, (h l).1.2.2, ⟨fun c hc => by simp [lawful_capture l] at hc, (h l).2⟩⟩

/-- `lawful` with the 32 blocks that `base` has, so that every block is free or in the chain of the job of slot 7. -/
def fitted : State := { lawful with store := { lawful.store with blockCount := 32 } }

/-- The job of slot 7 in `fitted`. -/
def flown : Job := { printing with nextUnsent := 1, inFlight := 1, restart := .following }

theorem fitted_job : fitted.job 7 = flown := rfl

theorem fitted_freed (i : Slot) (h : i ≠ 7) : fitted.job i = Job.freed 0 := holding_job flown i h

theorem flown_legal : flown.Legal :=
  ⟨⟨rfl, rfl, rfl⟩, by decide, by decide, by decide, by decide, by decide, by decide, by decide, by decide, by decide,
    by decide, by decide, by decide, by decide⟩

theorem freed_legal : (Job.freed 0).Legal :=
  ⟨rfl, by decide, by decide, by decide, by decide, by decide, by decide, by decide, by decide, by decide, by decide,
    by decide, by decide, by decide⟩

theorem fitted_carries (l : LaneId) : fitted.Carries l := by
  by_cases h : l = 4
  · subst h
    refine ⟨by decide, by decide, by decide, by decide +kernel, by decide, fun h => absurd h (by decide), by decide,
      by decide, by decide⟩
  · have e : ∀ l : LaneId, l ≠ 4 → (fitted.lane l).job = none ∧ (fitted.lane l).inFlight = [] := by decide +kernel
    unfold State.Carries
    rw [(e l h).1]
    exact (e l h).2

/-- Each of the 32 blocks is free or the one block of the job of slot 7. -/
theorem holding_blocks :
    ((holding filling).store.free ++ ((Vector.replicate 256 (Job.freed 0)).set 7 filling).toList.flatMap
      fun j => j.chain.map ChainEntry.block).Perm (List.range (holding filling).store.blockCount) := by decide +kernel

/-- A state with the jobs of `holding j`, whose content is that of `filling`, meets the laws on jobs when its lanes carry
the job. -/
theorem law_of_holding (s : State) (j : Job) (jobs : s.jobs = (holding j).jobs) (store : s.store = (holding filling).store)
    (tx : s.link.tx = none) (lanes : s.LaneLaw) (carries : ∀ l : LaneId, s.Carries l) (legal : j.Legal)
    (live : j.state ≠ .free ∧ j.state ≠ .done) (chain : j.chain = filling.chain) (stored : j.storedEnd = 16)
    (pair : ∀ l : LaneId, j.lane = some l → (s.lane l).job = some { slot := 7, gen := j.gen }) : s.JobLaw := by
  have at7 : s.job 7 = j := by rw [State.job, jobs]; exact Vector.getElem_set_self _
  have freed (i : Slot) (h : i ≠ 7) : s.job i = Job.freed 0 := by rw [State.job, jobs]; exact holding_job j i h
  have fresh (i : Slot) (h : i ≠ 7) : (s.job i).state = .free := by rw [freed i h]; rfl
  have open7 : s.jobs.openList = [7] := by rw [jobs]; rfl
  have noEnd : s.jobs.endList = [] := by rw [jobs]; exact if_neg live.2
  have blocks : s.jobs.slots = (Vector.replicate 256 (Job.freed 0)).set 7 j := by rw [jobs]; rfl
  refine ⟨lanes, fun i => ?_, carries, fun i l hl => ?_, fun i => ?_, by rw [open7]; decide, fun i => ?_,
    by rw [noEnd]; decide, fun i => ?_, fun i k h hi hk => ?_, ?_, fun e h => by rw [tx] at h; cases h⟩
  · by_cases h : i = 7
    · rw [h, at7]; exact legal
    · rw [freed i h]; exact freed_legal
  · by_cases h : i = 7
    · subst h; rw [at7] at hl; rw [pair l hl, State.handleOf, at7]
    · rw [freed i h] at hl; cases hl
  · by_cases h : i = 7
    · subst h
      rw [State.KeepsContent]
      simp only [at7, chain, stored, store]
      refine ⟨by decide, by decide, fun _ _ => ⟨fun _ => by decide, fun p hp _ => ?_⟩⟩
      have written : ∀ p, p < 16 → (addressOf filling.chain p).bind (holding filling).store.dram.read ≠ none := by
        decide +kernel
      exact written p hp
    · rw [State.KeepsContent]
      simp only [freed i h]
      exact ⟨by decide, by decide, fun a => absurd rfl a⟩
  · rw [open7, List.mem_singleton]
    refine ⟨fun h => by rw [h, at7]; exact live.1, fun h => Classical.byContradiction fun n => h (fresh i n)⟩
  · rw [noEnd]
    refine ⟨fun h => (by cases h), fun h => ?_⟩
    by_cases n : i = 7
    · rw [n, at7] at h; exact absurd h live.2
    · rw [fresh i n] at h; cases h
  · exact absurd (((Classical.byContradiction fun n => hi (fresh i n) : i = 7)).trans
      (Classical.byContradiction fun n => hk (fresh k n) : k = 7).symm) h
  · rw [blocks, store]
    have e : (((Vector.replicate 256 (Job.freed 0)).set 7 j).toList.flatMap fun j => j.chain.map ChainEntry.block) =
        (((Vector.replicate 256 (Job.freed 0)).set 7 filling).toList.flatMap fun j => j.chain.map ChainEntry.block) := by
      simp only [Vector.toList_set, List.flatMap_def, List.map_set, chain]
    rw [e]; exact holding_blocks

theorem fitted_law : fitted.JobLaw :=
  law_of_holding fitted flown rfl rfl rfl witness_StepKeepsLaneLaw.1 fitted_carries flown_legal (by decide) rfl rfl
    (fun l h => by rw [← Option.some.inj h]; rfl)

/-- A lane as at reset, or IDLE, is legal and carries no job. -/
theorem unused_lanes (s : State) (h : ∀ l : LaneId, s.lane l = Lane.fresh ∨ s.lane l = idling) :
    s.LaneLaw ∧ ∀ l : LaneId, s.Carries l := by
  have legal : Lane.fresh.Legal ∧ idling.Legal := by
    constructor <;> refine ⟨by decide, by decide, by decide, ⟨fun c hc => (by cases hc), ?_⟩⟩ <;> decide
  refine ⟨fun l => ?_, fun l => ?_⟩
  · rcases h l with e | e <;> rw [e]
    · exact legal.1
    · exact legal.2
  · have e : (s.lane l).job = none ∧ (s.lane l).inFlight = [] := by rcases h l with e | e <;> rw [e] <;> decide
    unfold State.Carries
    rw [e.1]
    exact e.2

theorem witness_StepKeepsJobLaw :
    fitted.JobLaw ∧ fitted.CountsFit ∧ after (step fitted) State.time = some 1 ∧
      after (exec (.laneRead 4) fitted) (fun t => (t.lane 4).sendPos) = some 16 := by
  refine ⟨fitted_law, fun i => ?_, by decide +kernel, by decide +kernel⟩
  by_cases h : i = 7
  · subst h; decide
  · rw [fitted_freed i h]; decide

theorem witness_StepKeepsStoreAndQueueLaws_tags :
    fitted.JobLaw ∧ fitted.CountsFit ∧ after (step fitted) State.time = some 1 :=
  ⟨witness_StepKeepsJobLaw.1, witness_StepKeepsJobLaw.2.1, witness_StepKeepsJobLaw.2.2.1⟩

/-- With 64 waiting, a CREDIT of 60 in flight and 4 kept apart. -/
def brimful : State :=
  sendingUp (.credit 60) { lawful with intake := { lawful.intake with waiting := some 64, kept := 4 } }

theorem witness_StepKeepsCreditLaw : brimful.CreditLaw ∧ lawful.CreditLaw ∧ after (step brimful) State.time = some 1 := by
  refine ⟨⟨fun n h => ?_, by decide, fun n h => ?_, fun _ h => absurd rfl (h 60)⟩,
    ⟨fun n h => (by cases h), by decide, fun n h => (by cases h), fun _ _ => rfl⟩, by decide +kernel⟩
  · rw [← Option.some.inj h]; decide
  · rw [← UplinkFrame.credit.inj (Option.some.inj h)]; decide

theorem witness_StepKeepsMeterAndReservationLaws : lawful.ReservationLaw ∧ after (step lawful) State.time = some 1 := by
  delta State.ReservationLaw State.MeterLaw; decide +kernel

/-- The budgets and lane counters of `lawful` are in range, and nothing is held; with a hold of account 3 and its held
entry the law holds too. -/
theorem witness_StepKeepsMeterRanges :
    (lawful.MeterRanges ∧ lawful.ReservationLaw) ∧
      ({ lawful with meter := { lawful.meter with
          hold := some [3], held := [{ account := 3, charge := 256, sheets := 1 }] } } : State).MeterRanges := by
  have b : ∀ a : AccountId, lawful.meter.accounts[a].budget = none := by decide +kernel
  have c : ∀ l : LaneId, lawful.meter.bank.counters[l].delivered ≤ max32 ∧
      lawful.meter.bank.counters[l].spoiled ≤ max32 ∧ lawful.meter.bank.counters[l].spoiledCharge ≤ max48 ∧
      lawful.meter.bank.counters[l].jams ≤ max32 ∧ lawful.meter.bank.counters[l].stalls ≤ max32 ∧
      lawful.meter.bank.counters[l].phantoms ≤ max32 := by decide +kernel
  refine ⟨⟨⟨fun a n h => ?_, c, by decide +kernel, by decide +kernel⟩, witness_StepKeepsMeterAndReservationLaws.1⟩,
    fun a n h => ?_, c, by decide +kernel, by decide +kernel⟩
  · rw [b a] at h; cases h
  · rw [show _ = none from b a] at h; cases h

theorem witness_StepKeepsDispatchLaw : lawful.DispatchLaw ∧ after (step lawful) State.time = some 1 := by
  refine ⟨fun l p _ _ i => Bool.eq_false_iff.mpr fun h => ?_, by decide +kernel⟩
  have hr : (lawful.job i).state = .ready := ((State.isCandidate_iff lawful p i).mp h).1
  by_cases hi : i = 7
  · subst hi; exact absurd hr (by decide)
  · have e : lawful.job i = (holding { printing with nextUnsent := 1, inFlight := 1, restart := .following }).job i := rfl
    rw [e, holding_job _ _ hi] at hr
    cases hr

/-! Jobs -/

/-- `ready` with every slot taken. -/
def crowded : State := { ready with jobs := { ready.jobs with slots := .replicate 256 filling } }

/-- Every slot of `ready` is FREE. -/
theorem ready_job (i : Slot) : ready.job i = Job.freed 0 := by
  simp [State.job, ready, base, State.cleared]

/-- Every slot of `crowded` is taken. -/
theorem crowded_job (i : Slot) : crowded.job i = filling := by
  simp [State.job, crowded]

theorem witness_OpenRequests :
    (ready.Admits ∧ ready.classes[2].pool = some 1 ∧ ready.meter.accounts[3].enabled = true ∧
      (ready.job 0).state = .free) ∧
    (64 ≤ (64 : Byte).toNat ∧ ready.classes[5].pool = none ∧ 128 ≤ (128 : Byte).toNat ∧
      ready.meter.accounts[4].enabled = false) ∧
    (((holding filling).job 7).state ≠ .free ∧ ((holding filling).job 7).tag = 17) ∧ crowded.Admits ∧
    after (exec (.openJob 18 2 3) (holding filling)) (fun t => t.link.responses.length) = some 1 ∧
    (full ready).Receives ∧ 16 ≤ (full ready).link.responses.length := by decide +kernel

theorem witness_OpenRequests_slots :
    (∀ j : Slot, (ready.job j).state ≠ .free → (ready.job j).tag ≠ 17) ∧
      (∀ j : Slot, (crowded.job j).state ≠ .free ∧ (crowded.job j).tag ≠ 18) ∧
      ∀ i j : Slot, i ≠ j → ((holding filling).job i).state ≠ .free → ((holding filling).job j).state ≠ .free →
        ((holding filling).job i).tag ≠ ((holding filling).job j).tag := by
  exact ⟨fun j h => absurd (by rw [ready_job]; rfl) h, fun j => by rw [crowded_job]; decide, holding_tags filling⟩

theorem witness_CloseRequests :
    (holding filling).Admits ∧ ¬(holding filling).Names { slot := 7, gen := 4 } ∧
      ((holding { filling with state := .done }).Names h7 ∧ ((holding { filling with state := .done }).job 7).Ending) ∧
      ((holding { filling with isOpen := false }).Names h7 ∧ ¬((holding { filling with isOpen := false }).job 7).Ending ∧
        ((holding { filling with isOpen := false }).job 7).isOpen = false) ∧
      (holding filling).Addresses h7 ∧ (5 : Half) ≠ ((holding filling).job 7).nextSeq ∧
      (holding { filling with state := .ready }).Addresses h7 ∧ (holding { filling with state := .held }).Addresses h7 ∧
      (busy printing sending).Addresses h7 := by
  refine ⟨?_, ?_, ?_, ?_, ?_, ?_, ?_, ?_, ?_⟩ <;> decide +kernel

theorem witness_CancelActsByTheJobsState :
    (holding filling).Admits ∧ ¬(holding filling).Names { slot := 8, gen := 0 } ∧
      ((holding filling).Names h7 ∧ ((holding filling).job 7).state ∈ [JobState.filling, .ready, .held]) ∧
      ((busy printing sending).Names h7 ∧ ((busy printing sending).job 7).state = .printing ∧
        ((busy printing sending).job 7).stop = none) ∧
      ((busy { printing with stop := some (.fail .overrun) } sending).job 7).stop = some (.fail .overrun) ∧
      (((holding { filling with state := .done }).job 7).state = .done ∧
        ((holding { filling with state := .done }).job 7).gen = h7.gen) := by decide +kernel

/-- A HELD OPERATOR job in slot 7, eligible by its threshold of 1, or not at 2. -/
def heldJob (threshold : Nat) : State :=
  holding { filling with state := .held, holdReason := some .operator, threshold := threshold }

theorem witness_ReleaseLeavesAnOperatorHold :
    ((heldJob 1).Admits ∧ (heldJob 1).Names h7 ∧ ((heldJob 1).job 7).state = .held ∧
      ((heldJob 1).job 7).holdReason = some .operator ∧ 1 ≤ ((heldJob 1).job 7).threshold ∧
      ((heldJob 1).job 7).threshold ≤ ((heldJob 1).job 7).stored) ∧
    (((heldJob 2).job 7).isOpen = true ∧ ((heldJob 2).job 7).stored < ((heldJob 2).job 7).threshold ∧
      ((heldJob 2).job 7).forced = false) ∧
    ¬(heldJob 1).Names { slot := 7, gen := 2 } ∧
    ((holding filling).Names h7 ∧
      ¬(((holding filling).job 7).state = .held ∧ ((holding filling).job 7).holdReason = some .operator)) := by
  decide +kernel

theorem witness_StopRequests :
    ((busy printing { sending with state := .jammed }).lane 4).state = .jammed ∧
      ((busy printing { sending with state := .recovering }).lane 4).state = .recovering ∧
      (((busy printing sending).lane 4).inSheet = false ∧ ((busy printing sending).lane 4).prologueDue = false ∧
        ((busy printing sending).lane 4).inFlight = []) ∧
      (((flying id id).lane 4).inSheet = true ∧ ((flying id id).lane 4).inFlight ≠ []) ∧
      ((busy printing { sending with state := .starved, prologueDue := true }).lane 4).prologueDue = true ∧
      ((busy printing { sending with state := .paused }).lane 4).state = .paused ∧
      ((busy printing { sending with state := .draining }).lane 4).state = .draining := by decide +kernel

theorem witness_ApplyingAStopRequest (r : StopRequest) :
    let s := busy { printing with stop := some r } sending
    (s.lane 4).job = some h7 ∧ (s.job h7.slot).stop = some r ∧ (s.lane 4).state ≠ .idle ∧ (s.lane 4).enabled = true ∧
      ((busy { printing with stop := some r } { sending with enabled := false }).lane 4).enabled = false ∧
      ((busy { printing with stop := some r } { sending with state := .jammed }).lane 4).state = .jammed ∧
      ((busy { printing with stop := some r } { sending with state := .draining }).lane 4).state = .draining ∧
      ((busy { printing with stop := some r } { sending with state := .recovering }).lane 4).state = .recovering := by
  refine ⟨rfl, rfl, ?_, rfl, rfl, rfl, rfl, rfl⟩
  exact fun h => by cases h

/-- R83: a lane that applies a CANCEL in DRAINING is IDLE; one that applies a REQUEUE has the job again, its next one. -/
theorem test_applying_a_stop_request :
    let s (r : StopRequest) := busy { printing with stop := some r } { sending with state := .draining }
    let f (t : State) := ((t.lane 4).state, (t.lane 4).job, (t.job 7).state)
    f ((s .cancel).applyStop 4) = (.idle, none, .done) ∧ f ((s .requeue).applyStop 4) = (.sending, some h7, .printing) := by
  decide +kernel

theorem witness_BecomingReady : ∀ l : LaneId, ((holding filling).lane l).state ≠ .idle := by decide +kernel

theorem witness_EndingAndFailingJobs :
    ((holding filling).job 7).state ∈ [JobState.filling, .ready, .held] ∧
      ((holding { filling with state := .done }).job 7).state = .done ∧
      (((busy printing sending).job 7).state = .printing ∧ ((busy printing sending).job 7).lane = some 4) ∧
      (((busy printing sending).lane 4).state ≠ .idle ∧ ((busy printing sending).lane 4).enabled = true ∧
        ((busy printing { sending with enabled := false }).lane 4).enabled = false ∧
        ((busy printing { sending with state := .jammed }).lane 4).state = .jammed) := by decide +kernel

/-! Content, the intake state and dispatch -/

/-- `holding` with no credit outstanding. -/
def broke : State := { holding filling with intake := { (holding filling).intake with outstanding := 0 } }

theorem witness_ContentIsCheckedInOrder :
    (holding filling).Receives ∧ (1 ≤ (List.replicate 1024 (0 : Byte)).length ∧ (List.replicate 1024 (0 : Byte)).length ≤ 1024) ∧
      ¬(holding filling).Names { slot := 7, gen := 4 } ∧ ((holding { filling with state := .done }).job 7).Ending ∧
      ((holding { filling with isOpen := false }).Names h7 ∧ ¬((holding { filling with isOpen := false }).job 7).Ending ∧
        ((holding { filling with isOpen := false }).job 7).isOpen = false) ∧
      (broke.Addresses h7 ∧ broke.intake.outstanding = 0) ∧
      ((holding filling).Addresses h7 ∧ 1 ≤ (holding filling).intake.outstanding ∧
        (5 : Half) ≠ ((holding filling).job 7).nextSeq) := by decide +kernel

/-- A job whose stored end stands 4 bytes before the end of its block. -/
def brimming : Job := { filling with storedEnd := 4092, items := [{ pos := 0, body := .run 4088 }] }

theorem witness_DataIsTaken_MarkIsTaken :
    ((holding filling).Receives ∧ (holding filling).Addresses h7 ∧ 1 ≤ (holding filling).intake.outstanding ∧
      (holding filling).intake.outstanding ≤ (holding filling).store.free.length) ∧
    (addressOf filling.chain filling.storedEnd ≠ none ∧ filling.storedEnd % 4096 ≠ 0 ∧
      filling.storedEnd / 4096 = (filling.storedEnd + 7) / 4096) ∧
    ((holding brimming).Addresses h7 ∧ addressOf brimming.chain brimming.storedEnd ≠ none ∧
      brimming.storedEnd / 4096 ≠ (brimming.storedEnd + 7) / 4096) ∧
    ((holding (Job.freed 3)).job 7).storedEnd % 4096 = 0 ∧
    (((heldJob 2).job 7).restart = .fixed 0 ∧ (Job.freed 3).restart = .following) ∧
    (((holding { filling with threshold := 2 }).job 7).state = .filling ∧ 1 ≤ 2 ∧ 2 ≤ min (1 + 1) 4294967295) ∧
    (((holding filling).job 7).threshold = 0 ∧ ((heldJob 2).job 7).state = .held) ∧
    (((busy printing { sending with state := .starved, sendPos := 16 }).lane 4).state = .starved ∧
      ((busy printing { sending with state := .starved, sendPos := 16 }).lane 4).sendPos = printing.storedEnd ∧
      ((busy printing { sending with sendPos := 16, inSheet := true }).lane 4).state = .sending ∧
      (busy printing sending).Receives ∧ (busy printing sending).Addresses h7 ∧ printing.lane = some 4) := by decide +kernel

theorem witness_DataIsTaken_MarkIsTaken_laws :
    (holding filling).FillingUnsent ∧ (holding { filling with threshold := 2 }).FillingUnsent ∧
      (holding filling).DispatchLaw ∧ (busy printing sending).FillingUnsent ∧ (busy printing sending).DispatchLaw := by
  have idle : ∀ l : LaneId, ((holding filling).lane l).state ≠ .idle ∧ ((busy printing sending).lane l).state ≠ .idle := by
    decide +kernel
  exact ⟨holding_unsent _ rfl, holding_unsent _ rfl, fun l p h => absurd h (idle l).1, holding_unsent printing rfl,
    fun l p h => absurd h (idle l).2⟩

/-- A READY job in slot 7, alone in pool 1, with lane 5 IDLE. -/
def waiting : State := (holding { filling with state := .ready }).setLane 5 idling

/-- `base` in STOP. -/
def stopped (free : Nat) : State :=
  { base with store := { base.store with free := List.range free }, intake := { base.intake with state := .stop } }

theorem witness_GrantsAndTheIntakeState :
    (base.link.up = true ∧ base.intake.state = .run ∧
      8 ≤ min (64 - base.intake.outstanding) (base.store.free.length - base.intake.low - base.intake.outstanding) ∧
      base.link.tx = none ∧ (sendingUp (.credit 3) base).link.tx = some (.credit 3)) ∧
    halted.link.up = false ∧
    ((base.intake.state = .run ∧ base.intake.low < base.store.free.length) ∧
      ((stopped 3).intake.state = .stop ∧ (stopped 3).store.free.length < (stopped 3).intake.high) ∧
      (stopped 4).intake.high ≤ (stopped 4).store.free.length ∧
      ({ base with store := { base.store with free := [0, 1] } } : State).store.free.length ≤ base.intake.low) ∧
    (((busy printing sending).job 7).state = .printing ∧ (∀ i ∈ base.jobs.openList, (base.job i).state ≠ .filling) ∧
      (holding filling).jobs.openList = [] ++ 7 :: [] ∧ ((holding filling).job 7).state = .filling ∧
      1 ≤ ((holding filling).job 7).stored) ∧
    (((busy printing sending).job 7).state = .printing ∧ (stopped 3).intake.state = .stop ∧ base.intake.state = .run ∧
      ((waiting.setJob 7 (Job.freed 3)).lane 5).state = .idle) ∧
    (((busy { printing with stop := some .cancel } sending).lane 4).job = some h7 ∧
      ((busy { printing with stop := some .cancel } sending).job h7.slot).stop = some .cancel) := by decide +kernel

theorem witness_GrantsAndTheIntakeState_fallen (k : Slot) :
    ((stopped 3).job k).state ≠ .ready ∧ ((stopped 3).job k).state ≠ .printing := by
  have e : (stopped 3).job k = Job.freed 0 := Vector.getElem_replicate _
  rw [e]; decide

theorem witness_GrantsAndTheIntakeState_slots (k : Slot) :
    ((holding filling).job k).state ≠ .ready ∧ ((holding filling).job k).state ≠ .printing := by
  by_cases h : k = 7
  · subst h; decide
  · rw [holding_job _ _ h]; decide

theorem witness_WinnersAndPasses :
    ((waiting.setJob 9 { filling with state := .ready, priority := 3 }).winner 1 = some 9 ∧
      (waiting.setJob 9 { filling with state := .ready, priority := 3 }).isCandidate 1 7 = true) ∧
    waiting.winner 0 = none ∧ waiting.chooseLane 1 = some 5 ∧ waiting.chooseLane 0 = none ∧
    ((waiting.pass 0).lane 5).state = .idle := by decide +kernel

theorem witness_AssignmentStartsTheJob :
    ((waiting.job 7).prologueEnd = some 0 ∧ (waiting.job 7).restartPos < 4096 ∧ (Job.freed 3).prologueEnd ≠ some 0) ∧
      (notReady (waiting.lane 5).mirror = false ∧ notReady 0 = true) := by decide +kernel

/-- R37, R74: a start with an empty prologue moves to the restart point, which passes block 0 of the chain. -/
theorem test_assignment_releases_passed_blocks :
    let j : Job :=
      { filling with
        state := .ready, nextUnsent := 1, delivered := 1, stored := 2, restart := .fixed 4100, storedEnd := 4112,
        chain := [{ block := 0, ordinal := 0 }, { block := 1, ordinal := 1 }] }
    let t := (holding j).assign 1 7 5
    ((t.job 7).chain, t.store.free.getLast?, (t.lane 5).sendPos) = ([{ block := 1, ordinal := 1 }], some 0, 4100) := by
  decide +kernel

/-! Tables -/

/-- A SYSTEM row as written. -/
def systemRow : SystemWrite :=
  { high := 1024, low := 512, office := 1, retentionLost := true, alertOverflow := true, responseOverflow := true }

theorem witness_SetSystem_SetClass_SetTariff_SetZone :
    base.Admits ∧ StoresRows .system 0 1 [systemRow].length ∧ 1 ≤ base.store.blockCount ∧
      StoresRows .cls 63 2 [(), ()].length ∧ (0 < runLength 64 2 ∧ runRow 64 63 0 = 63 ∧ runRow 64 63 1 = 48) ∧
      StoresRows .tariff 15 16 (List.replicate 16 ()).length ∧ runRow 16 15 15 = 14 ∧
      StoresRows .zone 3 4 (List.replicate 4 ()).length ∧ runRow 4 3 1 = 0 ∧ runLength 4 5 = 4 := by decide +kernel

theorem witness_SetPoolAndLaneConfigStoreTheirRows :
    base.Admits ∧ StoresRows .pool 7 8 (List.replicate 8 ()).length ∧ runRow 8 7 1 = 0 ∧
      StoresRows .laneConfig 15 16 (List.replicate 16 ()).length ∧ runRow 16 15 1 = 0 ∧
      (∀ k, k < runLength 8 1 → (0 : PoolId).val ≠ runRow 8 7 k) ∧
      (∀ k, k < runLength 16 1 → (0 : LaneId).val ≠ runRow 16 15 k) := by decide +kernel

/-- A HELD BUDGET job in slot 7, at its mark, whose account has `budget` units. -/
def budgeted (budget : Nat) : State :=
  let s := holding { filling with state := .held, holdReason := some .budget }
  { s with meter := { s.meter with
      accounts := s.meter.accounts.set 3 { enabled := true, factor := 128, budget := some budget } } }

theorem witness_SetAccountAndReevaluation :
    (base.Admits ∧ StoresRows .account 127 16 (List.replicate 16 ()).length ∧ runRow 128 127 1 = 112 ∧
      (base.job 0).holdReason ≠ some .budget) ∧
    (((budgeted 1).job 7).state = .held ∧ ((budgeted 1).job 7).holdReason = some .budget ∧
      ((budgeted 1).job 7).account = 3 ∧ ((budgeted 1).job 7).markAt ((budgeted 1).job 7).restartPos = some plain ∧
      (budgeted 1).meter.passes 3 ((budgeted 1).meter.charge 3 plain) = true ∧
      (budgeted 0).meter.passes 3 ((budgeted 0).meter.charge 3 plain) = false) ∧
    ((holding filling).job 7).state ≠ .ready := by decide +kernel

theorem witness_SetAccountAndReevaluation_slots (i : Slot) :
    (ready.job i).holdReason ≠ some .budget ∧ (ready.job i).prologueEnd ≠ some 0 := by
  rw [ready_job]; decide

theorem witness_SetIsCheckedInOrder :
    base.Admits ∧ (136 : Byte).toNat * 30 ≤ 4093 ∧ (157 : Byte).toNat * 26 ≤ 4093 ∧ (81 : Byte).toNat * 50 ≤ 4093 ∧
      (255 : Byte).toNat * 16 ≤ 4093 ∧ (Instr.setZone 4 0 []).wellFormed = true ∧ ¬NamesRun Table.zone.rows 4 0 ∧
      (Instr.setPool 8 1 [{ threshold := 0, fallback := 0 }]).wellFormed = true ∧ ¬NamesRun Table.pool.rows 8 1 := by
  decide +kernel

/-- `base` with its reply queue full, a METER READ among the replies. -/
def replying : State :=
  { base with link := { base.link with replies := .meters 0 [0] false :: List.replicate 3 (.rows .zone 0 [0]) } }

theorem witness_GetAndMeterRead :
    base.Admits ∧ 11 ≤ (11 : Byte).toNat ∧ Table.alert.code = 9 ∧ ¬NamesRun Table.alert.rows 48 1 ∧
      NamesRun Table.alert.rows 47 1 ∧ base.link.replies.length < 4 ∧ replying.Admits ∧ 4 ≤ replying.link.replies.length ∧
      ¬NamesRun 128 128 1 ∧ ¬NamesRun 128 127 0 ∧ NamesRun 128 127 255 ∧
      Reply.meters 0 [0] false ∈ replying.link.replies := by decide +kernel

/-! Charges, alerts, zones -/

theorem witness_SheetChargesAndTheBudgetCheck :
    lawful.MeterLaw ∧ base.meter.accounts[3].budget = none ∧
      ((budgeted 1).meter.accounts[3].budget = some 1 ∧ ∀ e ∈ (budgeted 1).meter.held, e.account ≠ 3) ∧
      ([{ account := 4, charge := 1, sheets := 1 }, { account := 3, charge := 9, sheets := 1 }] : List HeldEntry) =
        [{ account := 4, charge := 1, sheets := 1 }] ++ { account := 3, charge := 9, sheets := 1 } :: [] := by
  delta State.MeterLaw; decide +kernel

/-- A METER UNIT with a hold of accounts 0 to 9 and the given held entries. -/
def onHold (held : List HeldEntry) : MeterUnit :=
  { base.meter with hold := some [0, 1, 2, 3, 4, 5, 6, 7, 8, 9], held := held }

theorem witness_DeliveryOfACharge :
    let e (a : AccountId) : HeldEntry := { account := a, charge := 256, sheets := 1 }
    base.meter.hold = none ∧
      ((onHold []).hold = some [0, 1, 2, 3, 4, 5, 6, 7, 8, 9] ∧ (3 : AccountId) ∈ [0, 1, 2, 3, 4, 5, 6, 7, 8, 9] ∧
        (onHold []).held.length < 8 ∧ ∀ x ∈ (onHold []).held, x.account ≠ 3) ∧
      (8 ≤ (onHold [e 0, e 1, e 2, e 4, e 5, e 6, e 7, e 8]).held.length ∧
        ∀ x ∈ (onHold [e 0, e 1, e 2, e 4, e 5, e 6, e 7, e 8]).held, x.account ≠ 3) ∧
      ((onHold [e 0, e 3]).held = [e 0] ++ e 3 :: [] ∧ ∀ x ∈ [e 0] ++ [], x.account ≠ 3) ∧
      ((onHold [e 0, e 3]).held.Pairwise (fun d e => d.account ≠ e.account) ∧ e 3 ∈ (onHold [e 0, e 3]).held ∧
        ∀ x ∈ (onHold [e 0, e 3]).held, x.account ≠ 1) := by decide +kernel

/-- R120, R123: a held charge that does not fit is clipped, and SATURATED is set; another account's meter stays. -/
theorem test_held_entries_applied :
    let u : MeterUnit := { onHold [{ account := 3, charge := 6, sheets := 2 }, { account := 5, charge := 1, sheets := 1 }] with
      bank := bankOf { total := 281474976710650, sheets := 1, saturated := false } }
    u.applyHeld.bank.meters[3] = { total := 281474976710655, sheets := 3, saturated := true } ∧
      u.applyHeld.bank.meters[5] = { total := 1, sheets := 1, saturated := false } ∧ u.applyHeld.held = [] := by
  decide +kernel

/-- An alert queue with 48 entries, URGENT before INFO. -/
def crammed : List AlertEntry :=
  (List.finRange 16).map (fun l => { entry .stall with source := .lane l }) ++
    (List.finRange 16).map (fun l => { entry .paperLow with source := .lane l }) ++
    (List.finRange 16).map (fun l => { entry .tonerLow with source := .lane l })

theorem witness_RaisingAnAlert :
    (lawful.AlertLaw ∧ lawful.ZoneLaw) ∧ alarmed.alerts.queue = [] ++ entry .jam :: [entry .coverOpen] ∧
      (∀ e ∈ alarmed.alerts.queue, ¬(e.source = .lane 4 ∧ e.kind = .stall)) ∧ alarmed.alerts.queue.length < 48 ∧
      (48 ≤ crammed.length ∧ (∀ e ∈ crammed, ¬(e.source = .lane 4 ∧ e.kind = .jam)) ∧
        crammed = crammed.dropLast ++ [{ entry .tonerLow with source := .lane 15 }] ∧
        AlertKind.jam.cls.rank < (entry .tonerLow).cls.rank ∧
        (entry .tonerLow).cls.rank ≤ AlertKind.retentionLost.cls.rank) ∧
      ((∀ e ∈ alarmed.alerts.queue, ¬(e.source = .account 3 ∧ e.kind = .budgetHold)) ∧
        (∀ e ∈ alarmed.alerts.queue, ¬(e.source = .system ∧ e.kind = .retentionLost)) ∧
        ∃ l : LaneId, AlertSource.lane 4 = .lane l ∧ (lawful.lane 4).zone = (lawful.lane l).zone) := by
  delta State.AlertLaw State.ZoneLaw; decide +kernel

/-- A state whose alert queue is `crammed`, each zone showing what its entries ask for. -/
def crammedState : State :=
  { withQueue crammed alarmed with alerts := { (withQueue crammed alarmed).alerts with
      zones := (Vector.replicate 4 Zone.fresh).set 2 { urgentZone with display := displayOf crammed 2 } } }

theorem witness_RaisingAnAlert_full : crammedState.AlertLaw ∧ crammedState.ZoneLaw := by
  delta State.AlertLaw State.ZoneLaw; decide +kernel

/-- R141: an account's alert is of the office zone. -/
theorem test_account_alerts_are_of_the_office_zone :
    (({ ready with alerts := { ready.alerts with office := 3 } } : State).raiseAccount 3 .budgetHold).alerts.queue =
      [{ entry .budgetHold with source := .account 3, zone := 3 }] := by decide +kernel

theorem witness_Acknowledgements :
    alarmed.Admits ∧ 2 < (3 : Byte).toNat ∧ 16 ≤ (16 : Byte).toNat ∧ 128 ≤ (128 : Byte).toNat ∧ 13 ≤ (13 : Byte).toNat ∧
      ((AlertSource.lane 4).bytes = [0, 4] ∧ AlertKind.jam.code = 0 ∧
        ∃ e ∈ alarmed.alerts.queue, e.source = .lane 4 ∧ e.kind = .jam) ∧
      (AlertSource.system.bytes = [2, 0] ∧ AlertKind.retentionLost.code = 12 ∧
        ∀ e ∈ alarmed.alerts.queue, ¬(e.source = .system ∧ e.kind = .retentionLost)) ∧
      (4 ≤ (4 : Byte).toNat ∧ (3 : Byte).toNat < 4) ∧ displayOf alarmed.alerts.queue 0 = displayOf [] 0 ∧
      ((full base).Receives ∧ 16 ≤ (full base).link.responses.length) := by decide +kernel

theorem witness_BeaconsEscalationAndTime :
    (lawful.Running ∧ lawful.ZoneLaw) ∧
      ((lawful.zone 2).generator = some { start := 0, on := 25, period := 50, high := true } ∧
        10 * 50 ≤ since 500 0 ∧ since 499 0 < 10 * 50 ∧ 25 < 50 ∧ 10 * 25 ≤ since 250 0 ∧ since 249 0 < 10 * 25) ∧
      ((lawful.zone 2).display = .urgent ∧ (lawful.zone 2).escalation = 0) ∧
      (((withZone { urgentZone with count := 1, escalation := 1 } lawful).zone 2).display = .urgent ∧
        1 ≤ ((withZone { urgentZone with count := 1, escalation := 1 } lawful).zone 2).escalation) ∧
      (withZone { urgentZone with escalation := 1 } lawful).ZoneLaw := by
  delta State.ZoneLaw; decide +kernel

/-! Lanes -/

theorem witness_LaneControlChecksAndTheCommandSlot :
    base.Admits ∧ 16 ≤ (16 : Byte).toNat ∧ (15 : Byte).toNat < 16 ∧ (base.lane 4).state = .offline ∧
      ((busy printing sending).Admits ∧ ((busy printing sending).lane 4).state = .sending ∧
        ((busy printing sending).lane 4).command = none) ∧
      ((busy printing { sending with command := some 9 }).lane 4).command = some 9 ∧ (ready.setLane 4 down).Admits ∧
      ((ready.setLane 4 down).lane 4).state = .down := by decide +kernel

theorem witness_EnableAndDisable :
    (base.Admits ∧ (base.lane 4).enabled = false ∧ (base.lane 4).state = .offline) ∧
      ((ready.setLane 4 down).lane 4).enabled = true ∧ ((ready.setLane 4 down).lane 4).job = none ∧
      ((ready.setLane 4 { down with enabled := false }).lane 4).state ≠ .offline ∧
      (((busy printing sending).lane 4).job = some h7 ∧ ((busy printing sending).job h7.slot).lane = some 4) := by
  decide +kernel

theorem witness_LosingAndInitialisingALane :
    let s := flying id (fun x => { x with misses := 3 })
    let p := flying id (fun x => { x with pollDue := true, pollOut := true, misses := 2 })
    (s.Admits ∧ s.Running ∧ (s.lane 4).misses = 3 ∧ (s.lane 4).state ≠ .down ∧
      (s.lane 4).state ≠ .offline ∧ (s.lane 4).job = some h7 ∧ (s.job 7).stop = none ∧
      (∀ e ∈ (s.lane 4).inFlight, e.job = h7) ∧ (s.lane 4).inFlight = sheet0 :: [] ∧ (s.job 7).spoiled ≤ 4294967295) ∧
    (p.Running ∧ (p.lane 4).pollDue = true ∧ (p.lane 4).command = none ∧ (p.lane 4).pollOut = true ∧
      2 ≤ (p.lane 4).misses ∧ (p.lane 4).state = .sending) ∧
    (((busy printing sending).lane 4).job = some h7 ∧ ((busy printing sending).lane 4).inFlight = []) ∧
    (((ready.setLane 4 down).lane 4).enabled = true ∧
      ((ready.setLane 4 { down with enabled := false }).lane 4).enabled = false) ∧
    ((ready.setLane 5 idling).lane 5).job = none ∧
    ((flying (fun j => { j with stop := some .hold }) id).job 7).stop = some .hold ∧
    ((flying (fun j => { j with stop := some .cancel }) id).job 7).stop = some .cancel ∧
    ((flying (fun j => { j with stop := some (.fail .overrun) }) id).job 7).stop = some (.fail .overrun) := by
  decide +kernel

theorem witness_LosingAndInitialisingALane_ranges : (flying id (fun x => { x with misses := 3 })).MeterRanges := by
  have b : ∀ a : AccountId, (flying id (fun x => { x with misses := 3 })).meter.accounts[a].budget = none := by
    decide +kernel
  refine ⟨fun a n h => ?_, by decide +kernel, by decide +kernel, by decide +kernel⟩
  rw [b a] at h; cases h

/-- R88, R97, log entry 42: a HOLD request met by the loss raises BUDGET HOLD and LANE DOWN, and by INIT no alert. -/
theorem test_a_hold_request_at_a_loss_and_at_init :
    let s := flying (fun j => { j with stop := some .hold }) (fun x => { x with misses := 3 })
    let f (t : State) := (t.alerts.queue.map AlertEntry.kind, (t.job 7).state)
    after (exec (.laneLoss 4) s) f = some ([.laneDown, .budgetHold], .held) ∧
      after (exec (.init 4) s) f = some ([], .held) := by decide +kernel

/-- Lane 4 in RECOVERING, its recovery timer at 3,000 ms. -/
def recovering : Lane :=
  { sending with state := .recovering, recoveryTimer := some { start := 0, length := 3000 } }

theorem witness_RecoveryOfALane :
    let stalled (m : Byte) (job : Option Handle) (delay : Nat) :=
      busy printing { sending with state := .jammed, stallCaused := true, mirror := m, job := job, recoveryDelay := delay }
    ((stalled 1 none 30).Admits ∧ ((stalled 1 none 30).lane 4).state = .jammed ∧
      ((stalled 1 none 30).lane 4).stallCaused = true ∧ ((stalled 1 none 30).lane 4).job = none ∧
      ((stalled 1 (some h7) 30).lane 4).job = some h7 ∧ ((stalled 1 (some h7) 30).lane 4).recoveryDelay ≠ 0 ∧
      ((stalled 1 (some h7) 0).lane 4).recoveryDelay = 0 ∧ ((stalled 17 none 0).lane 4).mirror.getLsbD 4 = true) ∧
    ((base.lane 4).state ≠ .jammed) ∧
    ((busy printing recovering).Running ∧ ((busy printing recovering).lane 4).job = some h7 ∧
      ((busy printing recovering).lane 4).recoveryTimer = some { start := 0, length := 3000 } ∧ 3000 ≤ since 3000 0 ∧
      ¬3000 ≤ since 2999 0 ∧ notReady ((busy printing recovering).lane 4).mirror = false ∧ notReady 0 = true) := by
  decide +kernel

/-! Resets and the link -/

theorem witness_ResetsAndSupplies :
    (lawful.Receives ∧ lawful.link.lineInSync = true ∧ lawful.store.blockCount ∈ [8192, 16384, 32768, 65536]) ∧
      halted.supply.halted = true ∧ base.Running := by decide +kernel

theorem witness_UplinkFramesAndRows :
    let s := { base with jobs := { base.jobs with endList := [7] } }
    (base.Receives ∧ (sendingUp (.credit 1) base).link.tx ≠ none ∧ base.link.tx = none ∧ base.intake.waiting = none ∧
      base.link.responses = [] ∧ base.link.replies = [] ∧ base.jobs.endList = [] ∧ base.alerts.queue = []) ∧
    (full base).link.responses = .refuse 0 .busy .nothing :: List.replicate 15 (.refuse 0 .busy .nothing) ∧
    (alarmed.alerts.queue = [] ++ entry .jam :: [entry .coverOpen] ∧ (entry .jam).cls = .urgent ∧
      (entry .coverOpen).cls ≠ .urgent) ∧
    replying.link.replies = .meters 0 [0] false :: List.replicate 3 (.rows .zone 0 [0]) ∧ s.jobs.endList = [7] ∧
    ((sendingUp (.getReply .laneState 4 [4] []) base).link.tx = some (.getReply .laneState 4 [4] []) ∧
      ([4] : List Nat)[([] : List (List Byte)).length]? = some 4) ∧
    (([3] : List AccountId)[([] : List MeterRecord).length]? = some 3 ∧ ([] : List AccountId).length ≤ 0) := by
  decide +kernel

theorem witness_Handovers :
    let r : MeterRecord := { account := 3, total := 9, sheets := 1, reserved := 0, saturated := false }
    let a : AlertFrame :=
      { source := .lane 4, kind := .jam, zone := 2, first := 0, last := 0, occurrences := 1, overflow := false }
    ((sendingUp (.credit 1) base).Receives ∧ (sendingUp (.credit 1) base).link.tx = some (.credit 1) ∧
      (sendingUp (.response (.refuse 0 .busy .nothing)) base).link.tx = some (.response (.refuse 0 .busy .nothing)) ∧
      (sendingUp (.alert a) base).link.tx = some (.alert a) ∧ { entry .jam with inFlight := true }.inFlight = true) ∧
    ([r].length = ([3] : List AccountId).length ∧ [r].map MeterRecord.account = [3] ∧ ([3] : List AccountId).Nodup) ∧
    ([[0], [1]] : List (List Byte)).length = [4, 5].length ∧
    ((sendingUp (.jobEnd endOf7) (holding { filling with state := .done })).jobs.openList.Nodup ∧
      (sendingUp (.jobEnd endOf7) (holding { filling with state := .done })).jobs.endList.Nodup) := by decide +kernel

theorem witness_LinkDownAndUp :
    fitted.Receives ∧ halted.link.up = false ∧
      ((fitted.job 7).isOpen = true ∧ (fitted.job 7).state = .printing ∧ (fitted.job 7).stop = none ∧
        after (exec .linkDown fitted) (fun t => (t.job 7).state) = some .printing) ∧
      ((heldJob 2).Receives ∧ ((heldJob 2).job 7).isOpen = true ∧ ((heldJob 2).job 7).state = .held) ∧
      ((holding filling).Receives ∧ ((holding filling).job 7).isOpen = true ∧ ((holding filling).job 7).state = .filling) ∧
      (waiting.Receives ∧ (waiting.job 7).isOpen = true ∧ (waiting.job 7).state = .ready) ∧
      (base.Running ∧ base.link.up = true) := by
  decide +kernel

/-- The states of the statement on LINK DOWN meet the laws on jobs. -/
theorem witness_LinkDownAndUp_law :
    fitted.JobLaw ∧ (heldJob 2).JobLaw ∧ (holding filling).JobLaw ∧ waiting.JobLaw := by
  have held := unused_lanes (heldJob 2) (by decide +kernel)
  have fill := unused_lanes (holding filling) (by decide +kernel)
  have wait := unused_lanes waiting (by decide +kernel)
  refine ⟨fitted_law,
    law_of_holding (heldJob 2) _ rfl rfl rfl held.1 held.2 ?_ (by decide) rfl rfl (fun l h => by cases h),
    law_of_holding (holding filling) _ rfl rfl rfl fill.1 fill.2 ?_ (by decide) rfl rfl (fun l h => by cases h),
    law_of_holding waiting { filling with state := .ready } rfl rfl rfl wait.1 wait.2 ?_ (by decide) rfl rfl
      (fun l h => by cases h)⟩ <;>
    exact ⟨⟨rfl, rfl, rfl⟩, by decide, by decide, by decide, by decide, by decide, by decide, by decide, by decide,
      by decide, by decide, by decide, by decide, by decide⟩

/-! Printer tokens and lane events -/

theorem witness_StatusTokens :
    (lawful.Hears 4 ∧ (lawful.lane 4).state ≠ .idle ∧ (lawful.lane 4).mirror.getLsbD 3 = false) ∧
      ((4 : Byte).getLsbD 2 = true ∧ (4 : Byte).getLsbD 3 = false ∧ (1 : Byte).getLsbD 0 = true) ∧
      (((busy printing { sending with state := .jammed, mirror := 9 }).lane 4).mirror.getLsbD 3 = true ∧
        (busy printing { sending with state := .jammed, mirror := 9 }).Hears 4) ∧
      (ready.setLane 4 down).Hears 4 ∧ (ready.setLane 5 idling).Hears 5 ∧
      (notReady 16 = true ∧ (9 : Byte).getLsbD 3 = true ∧
        edgeAlerts 8 16 = [.jamCleared, .coverOpen]) ∧
      (let p (r : Resume) := busy printing { sending with state := .paused, resume := some r, mirror := 4 }
       (p .sending).Hears 4 ∧ ((p .sending).lane 4).state = .paused ∧ ((p .sending).lane 4).job = some h7 ∧
         ((p .sending).lane 4).resume = some .sending ∧ ((p .starved).lane 4).resume = some .starved ∧
         ((p .sending).job 7).stop = none ∧ ((p .sending).lane 4).roomWait = false ∧ (1 : Byte).getLsbD 3 = false ∧
         (1 : Byte).getLsbD 0 = true ∧ (1 : Byte).getLsbD 2 = false ∧ (1 : Byte).getLsbD 4 = false ∧
         (1 : Byte).getLsbD 6 = false ∧ (1 : Byte).getLsbD 7 = false ∧
         ((busy { printing with stop := some .hold }
           { sending with state := .paused, resume := some .starved, sendPos := 16 }).job 7).stop ≠ none ∧
         { printing with storedEnd := 16 }.readAt 16 = .wait) ∧
      ((lawful.lane 4).mirror.getLsbD 3 = false ∧ (9 : Byte).getLsbD 3 = true) := by decide +kernel

/-- The lanes of the STATUS statements are legal. -/
theorem witness_StatusTokens_legal : (lawful.lane 4).Legal ∧ down.Legal ∧ idling.Legal ∧
    { sending with state := .jammed, mirror := 9 }.Legal ∧ { sending with state := .jammed, job := none }.Legal ∧
    { sending with state := .paused, resume := some .starved }.Legal ∧ recovering.Legal := by
  refine ⟨(witness_StepKeepsLaneLaw.1 4), ?_, ?_, ?_, ?_, ?_, ?_⟩ <;>
    refine ⟨by decide, by decide, by decide, ⟨fun c hc => (by cases hc), ?_⟩⟩ <;> decide

theorem witness_JamsAndStalls :
    (((flying id id).lane 4).state ∈ [LaneState.sending, .starved, .paused] ∧ ((flying id id).lane 4).job = some h7 ∧
      ((flying id id).job 7).stop = none ∧ ((flying id id).lane 4).inFlight = sheet0 :: [] ∧ sheet0.job = h7) ∧
      ((busy printing sending).lane 4).inFlight = [] ∧ ((ready.setLane 5 idling).lane 5).state = .idle ∧
      ((busy printing recovering).lane 4).state = .recovering ∧
      ((busy printing { sending with state := .jammed }).lane 4).state = .jammed ∧
      (((flying (fun j => { j with stop := some .hold }) (fun x => { x with state := .draining })).lane 4).state = .draining ∧
        ((ready.setLane 4 down).lane 4).state = .down) ∧
      ((flying id id).Running ∧ ((flying id id).lane 4).stallTimer = some { start := 0, length := 20000 } ∧
        20000 ≤ since 20000 0 ∧ since 19999 0 < 20000) := by decide +kernel

theorem witness_LaneTransmitter :
    ((busy printing sending).Hears 4 ∧ ((busy printing sending).lane 4).credits ≤ 63) ∧ (base.lane 4).state = .offline ∧
      ((busy printing sending).Running ∧ ((busy printing sending).lane 4).state ≠ .offline ∧
        ((busy printing sending).lane 4).pollTimer = some { start := 0, length := 50 } ∧ 50 ≤ since 50 0 ∧
        since 49 0 < 50) ∧
      (let x (m : Nat) : Lane := { sending with pollDue := true, pollOut := true, misses := m }
       ((busy printing (x 2)).lane 4).pollDue = true ∧ min (((busy printing (x 2)).lane 4).misses + 1) 3 = 3 ∧
         min (((busy printing (x 1)).lane 4).misses + 1) 3 ≠ 3 ∧ ((busy printing (x 3)).lane 4).misses = 3 ∧
         ((busy printing (x 2)).lane 4).state ≠ .down ∧ (ready.setLane 4 { down with pollDue := true }).Running ∧
         ((ready.setLane 4 { down with pollDue := true }).lane 4).state = .down ∧
         ((busy printing { x 3 with command := some 1 }).lane 4).command ≠ none) ∧
      ((busy printing { sending with stream := [.jobFinish] }).lane 4).stream = .jobFinish :: [] := by decide +kernel

theorem witness_SheetOutDeliversTheOldestEntry :
    ((busy printing sending).Hears 4 ∧ ((busy printing sending).lane 4).inFlight = []) ∧
      ((flying id id).Hears 4 ∧ ((flying id id).lane 4).inFlight = sheet0 :: [] ∧
        ((flying id id).lane 4).state ≠ .idle) ∧
      (((flying id (fun x => { x with inFlight := [sheet0, sheet0] })).lane 4).inFlight = sheet0 :: [sheet0] ∧
        ((flying id id).job 7).isOpen = true ∧ ((flying id id).lane 4).roomWait = false) ∧
      ((flying id id).job sheet0.job.slot).lane = some 4 ∧
      (let s := flying (fun j => { j with isOpen := false }) (fun x => { x with sendPos := 16 })
       (s.job 7).isOpen = false ∧ (s.job 7).delivered + 1 = (s.job 7).stored ∧ (s.lane 4).sendPos = (s.job 7).storedEnd ∧
         (s.lane 4).prologueDue = false ∧ (s.job 7).stop = none ∧ s.Hears 4 ∧ (s.lane 4).inFlight = sheet0 :: []) ∧
      ((flying id (fun x => { x with state := .draining })).lane 4).state = .draining ∧
      (let s := busy printing { sending with roomWait := true }
       (s.lane 4).state = .sending ∧ (s.lane 4).roomWait = true ∧ (s.lane 4).command = none ∧ (s.lane 4).pollDue = false ∧
         (s.lane 4).stream = [] ∧ (s.job 7).markAt (s.lane 4).sendPos = some plain ∧ (s.job 7).markAt 8 = none) := by
  decide +kernel

/-- R14, R109: the last sheet of a closed job completes it, and one with a request drains into it. -/
theorem test_sheet_out_retires_the_last_entry :
    let s (j : Job → Job) (x : Lane → Lane) := flying j (fun y => x { y with sendPos := 16 })
    let f (t : State) := ((t.job 7).outcome, (t.job 7).inFlight, (t.lane 4).state, (t.lane 4).job)
    after (exec (.sheetOut 4) (s (fun j => { j with isOpen := false }) id)) f = some (some .completed, 0, .idle, none) ∧
      after (exec (.sheetOut 4) (s (fun j => { j with stop := some .cancel }) (fun y => { y with state := .draining }))) f =
        some (some .cancelled, 0, .idle, none) := by decide +kernel

theorem witness_ReadsOfAJob :
    (lawful.Running ∧ (lawful.lane 4).state = .sending ∧ (lawful.lane 4).command = none ∧
      (lawful.lane 4).pollDue = false ∧ (lawful.lane 4).stream = [] ∧ (lawful.lane 4).job = some h7) ∧
    (filling.readAt 8 = .bytes 12 4 16 ∧ Memory.readContent filling.chain (holding filling).store.dram 12 4 =
      some [12, 13, 14, 15]) ∧
    filling.readAt 0 = .mark plain ∧ filling.readAt 16 = .wait ∧ { filling with isOpen := false }.readAt 16 = .finished ∧
    (filling.items = [{ pos := 0, body := .mark plain }] ++ { pos := 8, body := .run 4 } :: [] ∧ 15 < 8 + 4 + 4) ∧
    (let x : Lane := { sending with state := .starved, sendPos := 16 }
     ((busy printing x).lane 4).state = .starved ∧ ((busy printing sending).lane 4).state ≠ .starved ∧
       printing.readAt 16 = .wait ∧ { printing with isOpen := false }.readAt 16 = .finished ∧
       printing.readAt 8 ≠ .wait ∧ printing.readAt 8 ≠ .finished ∧ ((busy printing x).job 7).lane = some 4 ∧
       { printing with isOpen := false, delivered := 1 }.delivered = printing.stored) := by
  decide +kernel

/-- A job whose prologue ends in block 0, at its restart point in block 2, not on a lane. -/
def spread : Job :=
  { filling with
    prologueEnd := some 8, restart := .fixed 8200,
    chain := [{ block := 0, ordinal := 0 }, { block := 9, ordinal := 1 }, { block := 4, ordinal := 2 }] }

theorem witness_ReadsOfAJob_chain :
    let kept : List ChainEntry := [{ block := 0, ordinal := 0 }]
    let gone : List ChainEntry := [{ block := 9, ordinal := 1 }]
    let left : List ChainEntry := [{ block := 4, ordinal := 2 }]
    spread.chain = kept ++ gone ++ left ∧ spread.prologueEnd = some 8 ∧ (∀ e ∈ kept, e.ordinal * 4096 < 8) ∧
      (∀ e ∈ (gone ++ left).head?, ¬e.ordinal * 4096 < 8) ∧ (∀ e ∈ gone, (e.ordinal + 1) * 4096 ≤ 8200) ∧
      ∀ e ∈ left.head?, ¬(e.ordinal + 1) * 4096 ≤ 8200 := by decide

/-- R35, R36, R37: the block wholly below the restart point goes, those of the prologue and of the restart point stay. -/
theorem test_release_of_blocks :
    (((holding spread).release 7).job 7).chain = [{ block := 0, ordinal := 0 }, { block := 4, ordinal := 2 }] ∧
      ((holding spread).release 7).store.free = List.range' 1 31 ++ [9] := by decide +kernel

theorem witness_SheetBoundary :
    let s := busy printing sending
    ((s.lane 4).state ≠ .idle ∧ (s.job 7).stop = none ∧ (s.lane 4).inFlight.length < 32 ∧
      s.meter.passes 3 (s.meter.charge 3 plain) = true) ∧
    ((busy { printing with stop := some .hold } sending).job 7).stop ≠ none ∧
    32 ≤ ((busy printing { sending with inFlight := List.replicate 32 sheet0 }).lane 4).inFlight.length ∧
    (budgeted 0).meter.passes 3 ((budgeted 0).meter.charge 3 plain) = false ∧ ((flying id id).lane 4).inFlight ≠ [] := by
  decide +kernel

/-! Frames -/

theorem witness_FramesAndTokensDecodeToTheirCommands :
    ((Instr.cancel h7).wellFormed = true ∧ encodeFrame (.cancel h7) = some [0x05, 0x00, 0x02, 0x07, 0x03, 0xF5, 0xCF]) ∧
      encodeToken (.printerCredit 15 5) = some (15, [0x42, 0x00, 0x01, 0x05, 0x64, 0xA0]) ∧
      (0 : Half) ≠ crc16 [0x05, 0x00, 0x02, 0x07, 0x03] := by decide +kernel

end Sys2Proof.Tests.Slice0
end

section
/-!
PROOF. A property of the part that the elementary writes of the shared operations keep is kept by the operations
themselves: from a returned block up to a completed job, a lost lane and a SHEET OUT.
-/
namespace Sys2Proof.Machine

set_option Elab.async false

/-- A property that holds on whatever is written to jobs, lanes, pools, meters and alerts, when a block is returned, when
the intake state moves and when a grant is evaluated. -/
structure Stable (P : State → Prop) : Prop where
  jobs {s : State} (x : JobTable) (h : P s) : P { s with jobs := x }
  lanes {s : State} (x : Vector Lane 16) (h : P s) : P { s with lanes := x }
  pools {s : State} (x : Vector PoolRow 8) (h : P s) : P { s with pools := x }
  meter {s : State} (x : MeterUnit) (h : P s) : P { s with meter := x }
  alerts {s : State} (x : AlertUnit) (h : P s) : P { s with alerts := x }
  returned {s : State} (b : Nat) (h : P s) : P { s with store := { s.store with free := s.store.free ++ [b] } }
  intakeState {s : State} (x : IntakeState) (h : P s) : P { s with intake := { s.intake with state := x } }
  grant {s : State} (h : P s) : P s.evalGrant

variable {P : State → Prop} {s : State}

/-! ### Blocks and the intake state -/

theorem Stable.setJob (k : Stable P) {i : Slot} {j : Job} (h : P s) : P (s.setJob i j) := k.jobs _ h

theorem Stable.setLane (k : Stable P) {l : LaneId} {x : Lane} (h : P s) : P (s.setLane l x) := k.lanes _ h

theorem Stable.reopenIntake (k : Stable P) (h : P s) : P s.reopenIntake := by
  unfold State.reopenIntake
  split
  · exact k.intakeState _ h
  · exact h

theorem Stable.returnBlocks (k : Stable P) {bs : List Nat} (h : P s) : P (s.returnBlocks bs) :=
  List.foldlRecOn bs _ h fun _ h b _ => k.grant (k.reopenIntake (k.returned b h))

theorem Stable.release (k : Stable P) {i : Slot} (h : P s) : P (s.release i) := k.returnBlocks (k.setJob h)

theorem Stable.releaseMoved (k : Stable P) {l : LaneId} {i : Slot} {old : Nat} (h : P s) : P (s.releaseMoved l i old) := by
  unfold State.releaseMoved
  split
  · exact k.release h
  · exact h

/-! ### Dispatch, forced start and ending -/

theorem Stable.assign (k : Stable P) {p : PoolId} {i : Slot} {l : LaneId} (h : P s) : P (s.assign p i l) :=
  k.releaseMoved (k.pools _ (k.setLane (k.setJob h)))

theorem Stable.passRounds (k : Stable P) {p : PoolId} (n : Nat) (h : P s) : P (s.passRounds p n) := by
  induction n generalizing s with
  | zero => exact h
  | succ n ih =>
    unfold State.passRounds
    split
    · exact h
    · split
      · exact h
      · exact ih (k.assign h)

theorem Stable.dispatch (k : Stable P) (h : P s) : P s.dispatch :=
  List.foldlRecOn _ _ h fun _ h _ _ => k.passRounds 16 h

theorem Stable.makeReady (k : Stable P) {i : Slot} (h : P s) : P (s.makeReady i) := k.dispatch (k.setJob h)

theorem Stable.forcedStart (k : Stable P) (h : P s) : P s.forcedStart := by
  unfold State.forcedStart
  split
  · exact h
  · split
    · exact k.makeReady (k.setJob h)
    · exact h

theorem Stable.checkFallen (k : Stable P) {b : State} (h : P s) : P (s.checkFallen b) := by
  unfold State.checkFallen
  split
  · exact k.forcedStart h
  · exact h

theorem Stable.checkIntake (k : Stable P) (h : P s) : P s.checkIntake := by
  unfold State.checkIntake
  split <;> split
  · exact k.forcedStart (k.intakeState _ h)
  · exact h
  · exact k.grant (k.reopenIntake h)
  · exact h

theorem Stable.endJob (k : Stable P) {i : Slot} {o : JobOutcome} (h : P s) : P (s.endJob i o) :=
  k.jobs _ (k.returnBlocks (k.setJob h))

theorem Stable.endNow (k : Stable P) {i : Slot} {o : JobOutcome} (h : P s) : P (s.endNow i o) :=
  k.checkFallen (k.endJob h)

theorem Stable.settleJob (k : Stable P) {i : Slot} {r : Option StopRequest} {loss : Bool} (h : P s) :
    P (s.settleJob i r loss) := by
  unfold State.settleJob
  split
  · exact k.endJob h
  · exact k.endJob h
  all_goals exact k.release (k.setJob h)

theorem Stable.raiseHold (k : Stable P) {i : Slot} {r : Option StopRequest} (h : P s) : P (s.raiseHold i r) := by
  unfold State.raiseHold
  split
  · exact k.alerts _ h
  · exact h

/-! ### A lane and its job -/

/-- R81, R83, R97: a lane record is written, the passes run and the forced-start check is made. -/
theorem Stable.leave (k : Stable P) {l : LaneId} {x : Lane} {b : State} (h : P s) :
    P (((s.setLane l x).dispatch).checkFallen b) := k.checkFallen (k.dispatch (k.setLane h))

theorem Stable.complete (k : Stable P) {i : Slot} {l : LaneId} (h : P s) : P (s.complete i l) := k.leave (k.endJob h)

theorem Stable.applyStop (k : Stable P) {l : LaneId} (h : P s) : P (s.applyStop l) := by
  unfold State.applyStop
  split
  · exact h
  · split
    · exact h
    · exact k.leave (k.raiseHold (k.settleJob h))

theorem Stable.drain (k : Stable P) {l : LaneId} (h : P s) : P (s.drain l) := by
  unfold State.drain
  dsimp only
  split
  · exact k.applyStop (k.setLane h)
  · exact k.setLane h

theorem Stable.endOfContent (k : Stable P) {l : LaneId} {i : Slot} (h : P s) : P (s.endOfContent l i) := by
  unfold State.endOfContent
  dsimp only
  split
  · exact k.complete (k.setLane h)
  · split
    · exact k.drain (k.setLane h)
    · exact k.setLane h

theorem Stable.wake (k : Stable P) {l : LaneId} {i : Slot} (h : P s) : P (s.wake l i) := by
  unfold State.wake
  split
  · split
    · exact h
    · exact k.endOfContent h
    all_goals exact k.setLane h
  · exact h

theorem Stable.tellLane (k : Stable P) {i : Slot} (h : P s) : P (s.tellLane i) := by
  unfold State.tellLane
  split
  · exact k.wake (k.setLane h)
  · exact h

theorem Stable.meetStop (k : Stable P) {l : LaneId} {i : Slot} (h : P s) : P (s.meetStop l i) := by
  unfold State.meetStop
  split
  case h_1 | h_2 => exact k.applyStop h
  case h_3 =>
    split
    · exact k.drain h
    · exact h
  case h_4 =>
    split
    · exact k.drain h
    · exact k.wake h
  all_goals exact h

theorem Stable.requestStop (k : Stable P) {i : Slot} {r : StopRequest} (h : P s) : P (s.requestStop i r) := by
  unfold State.requestStop
  dsimp only
  split
  · exact k.meetStop (k.setJob h)
  · exact k.setJob h

theorem Stable.fail (k : Stable P) {i : Slot} {why : FailReason} (h : P s) : P (s.fail i why) := by
  unfold State.fail
  dsimp only
  split
  case h_4 => exact k.requestStop (k.setJob h)
  case h_5 | h_6 => exact h
  all_goals exact k.endNow (k.setJob h)

theorem Stable.spoil (k : Stable P) {l : LaneId} (h : P s) : P (s.spoil l) := by
  unfold State.spoil
  split
  · exact h
  · exact k.setJob (k.setLane (List.foldlRecOn _ _ h fun _ h _ _ => k.setJob (k.meter _ h)))

theorem Stable.jam (k : Stable P) {l : LaneId} (h : P s) : P (s.jam l) := by
  have carried (i : Slot) : P (s.jamJob l i) := k.applyStop (k.releaseMoved (k.setLane (k.spoil h)))
  unfold State.jam
  split
  case h_1 | h_2 | h_3 | h_4 =>
    split
    · exact carried _
    · exact h
  case h_5 => exact k.dispatch (k.setLane h)
  case h_9 => exact h
  all_goals exact k.setLane h

theorem Stable.loseJob (k : Stable P) {l : LaneId} (h : P s) : P (s.loseJob l) := by
  unfold State.loseJob
  split
  · exact k.settleJob (k.spoil h)
  · exact h

theorem Stable.raiseLost (k : Stable P) {b : State} {l : LaneId} (h : P s) : P (s.raiseLost b l) := by
  unfold State.raiseLost
  split
  · exact k.raiseHold h
  · exact h

theorem Stable.raiseLane (k : Stable P) {l : LaneId} {a : AlertKind} (h : P s) : P (s.raiseLane l a) := k.alerts _ h

theorem Stable.lose (k : Stable P) {l : LaneId} (h : P s) : P (s.lose l) :=
  k.checkFallen (k.dispatch (k.raiseLane (k.setLane (k.raiseLost (k.loseJob h)))))

theorem Stable.restart (k : Stable P) {l : LaneId} {i : Slot} (h : P s) : P (s.restart l i) :=
  k.releaseMoved (k.setLane h)

theorem Stable.recover (k : Stable P) {l : LaneId} (h : P s) : P (s.recover l) := by
  unfold State.recover
  dsimp only
  split
  · split
    · exact k.restart (k.setLane h)
    · exact k.setLane h
  · exact k.dispatch (k.setLane h)

/-! ### Sheets -/

theorem Stable.boundary (k : Stable P) {l : LaneId} {j : Handle} {m : Mark} (h : P s) : P (s.boundary l j m) := by
  unfold State.boundary
  dsimp only
  split
  · exact k.drain h
  · split
    · exact k.setLane h
    · split
      · exact k.releaseMoved (k.setLane (k.setJob (k.meter _ h)))
      · exact k.drain (k.setJob h)

theorem Stable.retryRoom (k : Stable P) {l : LaneId} (h : P s) : P (s.retryRoom l) := by
  unfold State.retryRoom
  repeat' split
  · exact k.boundary h
  all_goals exact h

theorem Stable.finishPrologue (k : Stable P) {l : LaneId} {i : Slot} (h : P s) : P (s.finishPrologue l i) := by
  unfold State.finishPrologue
  dsimp only
  split
  · exact k.drain (k.releaseMoved (k.setLane h))
  · exact k.releaseMoved (k.setLane h)

theorem Stable.sendData (k : Stable P) {l : LaneId} {i : Slot} {bytes : List Byte} {next : Nat} (h : P s) :
    P (s.sendData l i bytes next) := by
  unfold State.sendData
  dsimp only
  split
  · exact k.complete (k.releaseMoved (k.setLane h))
  · exact k.releaseMoved (k.setLane h)

theorem Stable.actOnRead (k : Stable P) {l : LaneId} {j : Handle} {t : State} (h : P s)
    (ht : s.actOnRead l j = .next t) : P t := by
  unfold State.actOnRead at ht
  split at ht
  · cases ht
    split
    · exact k.finishPrologue h
    · exact k.boundary h
  · cases ht; exact k.setLane h
  · cases ht; exact k.endOfContent h
  · cases ht
  · split at ht
    · cases ht; exact h
    · split at ht
      · cases ht; exact k.sendData h
      · cases ht

theorem Stable.afterPause (k : Stable P) {l : LaneId} {i : Slot} (h : P s) : P (s.afterPause l i) := by
  unfold State.afterPause
  split
  · exact k.drain h
  · split
    · exact k.wake h
    · exact k.retryRoom h

theorem Stable.checkReady (k : Stable P) {l : LaneId} (h : P s) : P (s.checkReady l) := by
  unfold State.checkReady
  split
  case h_1 | h_2 =>
    split
    · exact k.setLane h
    · exact h
  case h_3 =>
    split
    · split
      · exact k.afterPause (k.setLane h)
      · exact h
    · exact h
  all_goals exact h

theorem Stable.afterSheet (k : Stable P) {l : LaneId} {i : Slot} (h : P s) : P (s.afterSheet l i) := by
  unfold State.afterSheet
  split
  · exact k.complete h
  · split
    · exact k.applyStop h
    · exact k.retryRoom h

theorem Stable.retire (k : Stable P) {l : LaneId} {e : InFlight} {rest : List InFlight} (h : P s) :
    P (s.retire l e rest) := k.afterSheet (k.release (k.setLane (k.setJob (k.meter _ h))))

theorem Stable.phantom (k : Stable P) {l : LaneId} (h : P s) : P (s.phantom l) := k.raiseLane (k.meter _ (k.setLane h))

end Sys2Proof.Machine
end

section
/-!
PROOF. What the events of the lanes and their printers leave alone: one relation for the frame `KeptByLanes` and every
stable property, one lemma for each operation that a command calls, and the twelve commands of `Instr.onLane`.
-/
namespace Sys2Proof.Machine

set_option Elab.async false

/-- What the shared operations on jobs and lanes come to: their frame, and every stable property is kept. -/
structure Quiet (s t : State) : Prop extends KeptByLanes s t where
  stable {P : State → Prop} (k : Stable P) (h : P s) : P t

variable {s t u : State} {l : LaneId} {i : Slot}

theorem Quiet.refl (s : State) : Quiet s s := ⟨.refl s, fun _ h => h⟩

theorem Quiet.trans (h : Quiet s t) (k : Quiet t u) : Quiet s u :=
  ⟨h.toKeptByLanes.trans k.toKeptByLanes, fun p hp => k.stable p (h.stable p hp)⟩

theorem Quiet.foldl {α : Type} (f : State → α → State) (hf : ∀ s a, Quiet s (f s a)) (xs : List α) (s : State) :
    Quiet s (xs.foldl f s) :=
  List.foldlRecOn xs f (.refl s) fun t h a _ => h.trans (hf t a)

/-! ### The operations that commands call -/

theorem State.setJob_quiet (s : State) (i : Slot) (j : Job) (h : j.gen = (s.job i).gen := by rfl) :
    Quiet s (s.setJob i j) := ⟨(s.setJob_kept i j h).lanes, fun k => k.setJob⟩

theorem State.setLane_quiet (s : State) (l : LaneId) (x : Lane) (h : x.row = (s.lane l).row := by rfl) :
    Quiet s (s.setLane l x) :=
  ⟨(s.setLane_kept l x h).lanes, fun k => k.setLane⟩

theorem Quiet.of_meter (s : State) (x : MeterUnit) (h : s.meter.Works x) : Quiet s { s with meter := x } :=
  ⟨.of_meter s x h, fun k => k.meter x⟩

theorem State.evalGrant_quiet (s : State) : Quiet s s.evalGrant := ⟨s.evalGrant_kept.lanes, fun k => k.grant⟩

theorem State.checkIntake_quiet (s : State) : Quiet s s.checkIntake :=
  ⟨s.checkIntake_kept.lanes, fun k => k.checkIntake⟩

theorem State.dispatch_quiet (s : State) : Quiet s s.dispatch := ⟨s.dispatch_kept.lanes, fun k => k.dispatch⟩

theorem State.makeReady_quiet (s : State) (i : Slot) : Quiet s (s.makeReady i) :=
  ⟨(s.makeReady_kept i).lanes, fun k => k.makeReady⟩

theorem State.forcedStart_quiet (s : State) : Quiet s s.forcedStart := ⟨s.forcedStart_kept.lanes, fun k => k.forcedStart⟩

theorem State.checkFallen_quiet (s b : State) : Quiet s (s.checkFallen b) :=
  ⟨(s.checkFallen_kept b).lanes, fun k => k.checkFallen⟩

theorem State.endJob_quiet (s : State) (i : Slot) (o : JobOutcome) : Quiet s (s.endJob i o) :=
  ⟨(s.endJob_kept i o).lanes, fun k => k.endJob⟩

theorem State.endNow_quiet (s : State) (i : Slot) (o : JobOutcome) : Quiet s (s.endNow i o) :=
  ⟨(s.endNow_kept i o).lanes, fun k => k.endNow⟩

theorem State.complete_quiet (s : State) (i : Slot) (l : LaneId) : Quiet s (s.complete i l) :=
  ⟨(s.complete_kept i l).lanes, fun k => k.complete⟩

theorem State.wake_quiet (s : State) (l : LaneId) (i : Slot) : Quiet s (s.wake l i) := ⟨s.wake_kept l i, fun k => k.wake⟩

theorem State.tellLane_quiet (s : State) (i : Slot) : Quiet s (s.tellLane i) := ⟨s.tellLane_kept i, fun k => k.tellLane⟩

theorem State.requestStop_quiet (s : State) (i : Slot) (r : StopRequest) : Quiet s (s.requestStop i r) :=
  ⟨s.requestStop_kept i r, fun k => k.requestStop⟩

theorem State.fail_quiet (s : State) (i : Slot) (why : FailReason) : Quiet s (s.fail i why) :=
  ⟨s.fail_kept i why, fun k => k.fail⟩

theorem State.raiseLane_quiet (s : State) (l : LaneId) (k : AlertKind) : Quiet s (s.raiseLane l k) :=
  ⟨s.raiseLane_kept l k, fun k => k.raiseLane⟩

theorem State.jam_quiet (s : State) (l : LaneId) : Quiet s (s.jam l) := ⟨s.jam_kept l, fun k => k.jam⟩

theorem State.loseJob_quiet (s : State) (l : LaneId) : Quiet s (s.loseJob l) := ⟨s.loseJob_kept l, fun k => k.loseJob⟩

theorem State.lose_quiet (s : State) (l : LaneId) : Quiet s (s.lose l) := ⟨s.lose_kept l, fun k => k.lose⟩

theorem State.restart_quiet (s : State) (l : LaneId) (i : Slot) : Quiet s (s.restart l i) :=
  ⟨(s.restart_kept l i).lanes, fun k => k.restart⟩

theorem State.recover_quiet (s : State) (l : LaneId) : Quiet s (s.recover l) :=
  ⟨(s.recover_kept l).lanes, fun k => k.recover⟩

theorem State.checkReady_quiet (s : State) (l : LaneId) : Quiet s (s.checkReady l) :=
  ⟨s.checkReady_kept l, fun k => k.checkReady⟩

theorem State.retire_quiet (s : State) (l : LaneId) (e : InFlight) (rest : List InFlight) : Quiet s (s.retire l e rest) :=
  ⟨s.retire_kept l e rest, fun k => k.retire⟩

theorem State.phantom_quiet (s : State) (l : LaneId) : Quiet s (s.phantom l) := ⟨s.phantom_kept l, fun k => k.phantom⟩

theorem State.actOnRead_quiet {h : Handle} (ht : s.actOnRead l h = .next t) : Quiet s t :=
  ⟨s.actOnRead_kept l h t ht, fun k hp => k.actOnRead hp ht⟩

/-! ### STATUS -/

theorem State.raiseEdges_quiet (s : State) (l : LaneId) (old new : Byte) : Quiet s (s.raiseEdges l old new) := by
  rw [State.raiseEdges_eq]
  exact Quiet.foldl _ (fun s k => s.raiseLane_quiet l k) _ s

theorem State.comeUp_quiet (s : State) (l : LaneId) : Quiet s (s.comeUp l) := by
  unfold State.comeUp
  split
  · exact (s.setLane_quiet l _).trans (State.raiseLane_quiet ..)
  · exact .refl s

theorem State.jamRose_quiet (s : State) (l : LaneId) (rose : Bool) : Quiet s (s.jamRose l rose) := by
  cases rose
  · exact .refl s
  · exact ((s.jam_quiet l).trans (State.raiseLane_quiet ..)).trans (.of_meter _ _ (.jam l (.refl _)))

theorem State.checkRecovery_quiet (s : State) (l : LaneId) (old new : Byte) : Quiet s (s.checkRecovery l old new) := by
  unfold State.checkRecovery
  split
  · exact s.recover_quiet l
  · exact .refl s

theorem State.settleUp_quiet (s : State) (l : LaneId) : Quiet s (s.settleUp l) := by
  unfold State.settleUp
  split
  · exact (s.setLane_quiet l _ (Lane.enter_row ..)).trans (State.dispatch_quiet _)
  · exact .refl s

theorem State.takeStatus_quiet (s : State) (l : LaneId) (fields : Byte) : Quiet s (s.takeStatus l fields) := by
  have reported := (s.comeUp_quiet l).trans (State.setLane_quiet _ l (((s.comeUp l).lane l).report fields) rfl)
  have edges := (reported.trans (State.jamRose_quiet _ l (StatusField.jam.rose (s.lane l).mirror fields))).trans
    (State.raiseEdges_quiet _ l (s.lane l).mirror fields)
  exact ((edges.trans (State.checkRecovery_quiet ..)).trans (State.settleUp_quiet ..)).trans (State.checkReady_quiet ..)

/-! ### The lane's own moments -/

theorem State.pollSent_quiet (s : State) (l : LaneId) : Quiet s (s.pollSent l) := by
  have sent := s.setLane_quiet l (s.lane l).sendPoll rfl
  unfold State.pollSent
  dsimp only
  split
  · exact sent.trans (State.lose_quiet ..)
  · exact sent

theorem State.stallExpired_quiet (s : State) (l : LaneId) : Quiet s (s.stallExpired l) := by
  have marked (t : State) : Quiet t (t.markStall l) := by
    unfold State.markStall
    split
    · exact t.setLane_quiet ..
    · exact .refl t
  exact (((s.jam_quiet l).trans (marked _)).trans (State.raiseLane_quiet ..)).trans (.of_meter _ _ (.stall l (.refl _)))

theorem State.recoveryExpired_quiet (s : State) (l : LaneId) : Quiet s (s.recoveryExpired l) := by
  unfold State.recoveryExpired
  split
  · exact s.restart_quiet l _
  · exact .refl s

@[simp] theorem Lane.credit_row (l : Lane) (count : Byte) : (l.credit count).row = l.row := by
  unfold Lane.credit
  split <;> rfl

@[simp] theorem Lane.sendCommand_row (l : Lane) : l.sendCommand.row = l.row := by
  unfold Lane.sendCommand
  split <;> rfl

@[simp] theorem Lane.takeStream_row (l : Lane) : l.takeStream.row = l.row := by
  unfold Lane.takeStream
  split <;> rfl

/-! ### The guards, and the twelve commands -/

theorem State.onToken_quiet {act : State → State} (h : Quiet s (act s)) : Quiet s (s.onToken l act) := by
  unfold State.onToken State.whenRunning
  split
  · exact .refl s
  · dsimp only
    split
    · exact .refl s
    · exact h

theorem State.onLane_quiet {ready : Lane → Bool} {act : Lane → State → State} (h : Quiet s (act (s.lane l) s)) :
    Quiet s (s.onLane l ready act) := by
  unfold State.onLane State.whenRunning
  split
  · exact .refl s
  · dsimp only
    split
    · exact h
    · exact .refl s

theorem execSheetOut_quiet (h : execSheetOut l s = .next t) : Quiet s t := by
  cases h
  refine State.onToken_quiet ?_
  split
  · exact s.retire_quiet l _ _
  · exact s.phantom_quiet l

theorem execLaneRead_quiet (h : execLaneRead l s = .next t) : Quiet s t := by
  unfold execLaneRead at h
  split at h
  · cases h; exact .refl s
  · split at h
    · exact State.actOnRead_quiet h
    · cases h; exact .refl s

theorem execLaneLoss_quiet (h : execLaneLoss l s = .next t) : Quiet s t := by
  cases h
  refine State.onLane_quiet ?_
  split
  · exact s.lose_quiet l
  · exact s.pollSent_quiet l

/-- A token of a printer, or a moment of a LANE ENGINE, does to the rest of the part what the shared operations do. -/
theorem exec_onLane_quiet {c : Instr} (hc : c.onLane = some l) (h : exec c s = .next t) : Quiet s t := by
  cases c
  case status => cases h; exact State.onToken_quiet (State.takeStatus_quiet ..)
  case printerCredit => cases h; exact State.onToken_quiet (State.setLane_quiet _ _ _ (Lane.credit_row ..))
  case sheetOut => exact execSheetOut_quiet h
  case tokenDiscard => cases h; exact .refl s
  case pollTimerExpiry => cases h; exact State.onLane_quiet (State.setLane_quiet ..)
  case pollSend => cases h; exact State.onLane_quiet (State.pollSent_quiet ..)
  case commandSend => cases h; exact State.onLane_quiet (State.setLane_quiet _ _ _ (Lane.sendCommand_row _))
  case laneRead => exact execLaneRead_quiet h
  case jobStreamTokenTaken => cases h; exact State.onLane_quiet (State.setLane_quiet _ _ _ (Lane.takeStream_row _))
  case laneLoss => exact execLaneLoss_quiet h
  case stallExpiry => cases h; exact State.onLane_quiet (State.stallExpired_quiet ..)
  case recoveryTimerExpiry => cases h; exact State.onLane_quiet (State.recoveryExpired_quiet ..)
  all_goals cases hc

end Sys2Proof.Machine
end

section
/-!
PROOF. What a command that resets nothing leaves of the settings, the time and the generations, with the laws of the
INTAKE UNIT that it keeps: one relation, and the writers of which commands are made.
-/
namespace Sys2Proof.Machine

set_option Elab.async false

/-! ### The settings of the ALERT UNIT and the METER UNIT -/

/-- R151: the stored settings of a zone. -/
def Zone.row (z : Zone) : Nat × Nat × Nat × Nat × Nat :=
  (z.urgentOn, z.urgentPeriod, z.noticeOn, z.noticePeriod, z.escalation)

@[simp] theorem Zone.show_row (z : Zone) (now : Time) (d : Display) : (z.show now d).row = z.row := by
  unfold Zone.show
  split
  · rfl
  · split <;> rfl

@[simp] theorem Zone.escalate_row (z : Zone) : z.escalate.row = z.row := by
  unfold Zone.escalate
  split <;> rfl

@[simp] theorem Zone.endPeriod_row (z : Zone) (now : Time) : (z.endPeriod now).row = z.row := by
  unfold Zone.endPeriod
  split
  · split
    · exact Zone.escalate_row _
    · rfl
  · rfl

@[simp] theorem Zone.endOn_row (z : Zone) (now : Time) : (z.endOn now).row = z.row := by
  unfold Zone.endOn
  split
  · split <;> rfl
  · rfl

/-- R141, R151: the office zone and the settings of every zone are as they were. -/
def AlertUnit.SameRows (u v : AlertUnit) : Prop := v.office = u.office ∧ ∀ z : ZoneId, v.zones[z].row = u.zones[z].row

section
variable {u v w : AlertUnit}

theorem AlertUnit.SameRows.refl (u : AlertUnit) : u.SameRows u := ⟨rfl, fun _ => rfl⟩

theorem AlertUnit.SameRows.trans (h : u.SameRows v) (k : v.SameRows w) : u.SameRows w :=
  ⟨k.1.trans h.1, fun z => (k.2 z).trans (h.2 z)⟩

theorem AlertUnit.setZone_sameRows (u : AlertUnit) (z : ZoneId) (x : Zone) (h : x.row = u.zones[z].row) :
    u.SameRows (u.setZone z x) := by
  refine ⟨rfl, fun k => ?_⟩
  rw [AlertUnit.zone_setZone]
  split
  · rename_i e; rw [e, h]
  · rfl

theorem AlertUnit.touched_sameRows (u : AlertUnit) (now : Time) (e : AlertEntry) : u.SameRows (u.touched now e) := by
  unfold AlertUnit.touched
  split
  · exact .refl u
  · exact u.setZone_sameRows _ _ (Zone.show_row ..)

theorem AlertUnit.create_sameRows (u : AlertUnit) (now : Time) (e : AlertEntry) : u.SameRows (u.create now e) :=
  AlertUnit.touched_sameRows { u with queue := insertEntry e u.queue } now e

theorem AlertUnit.displace_sameRows (u : AlertUnit) (now : Time) (e : AlertEntry) : u.SameRows (u.displace now e) :=
  AlertUnit.touched_sameRows { u with queue := u.queue.dropLast, overflow := true } now e

theorem AlertUnit.raise_sameRows (u : AlertUnit) (now : Time) (z : ZoneId) (src : AlertSource) (k : AlertKind) :
    u.SameRows (u.raise now z src k) := by
  unfold AlertUnit.raise
  split
  · exact .refl u
  · split
    · exact u.create_sameRows now _
    · split
      · split
        · exact (u.displace_sameRows now _).trans (AlertUnit.create_sameRows ..)
        · exact .refl u
      · exact .refl u

/-- Raised alerts change no setting. -/
theorem AlertUnit.Raises.sameRows (h : u.Raises v) : u.SameRows v := by
  induction h with
  | refl => exact .refl _
  | raise now z src k _ ih => exact ih.trans (AlertUnit.raise_sameRows ..)

theorem AlertUnit.remove_sameRows (u : AlertUnit) (now : Time) (drop : AlertEntry → Bool) :
    u.SameRows (u.remove now drop) :=
  List.foldlRecOn (motive := u.SameRows) _ _ (.refl u) fun v h e _ => h.trans (v.touched_sameRows now e)

end

/-- R113, R121: the TARIFF rows and the ACCOUNT rows are as they were. -/
def MeterUnit.SameRows (u v : MeterUnit) : Prop := v.tariff = u.tariff ∧ v.accounts = u.accounts

section
variable {u v w : MeterUnit}

theorem MeterUnit.SameRows.refl (u : MeterUnit) : u.SameRows u := ⟨rfl, rfl⟩

theorem MeterUnit.SameRows.trans (h : u.SameRows v) (k : v.SameRows w) : u.SameRows w :=
  ⟨k.1.trans h.1, k.2.trans h.2⟩

/-- Reservations, deliveries, spoilages and counts change no setting. -/
theorem MeterUnit.Works.sameRows (h : u.Works v) : u.SameRows v := by
  induction h with
  | refl => exact .refl _
  | deliver l a c _ ih => exact ih.trans (MeterUnit.deliver_settings ..)
  | reserve a c _ ih => exact ih
  | spoil l a c _ ih => exact ih
  | jam l _ ih => exact ih
  | stall l _ ih => exact ih
  | phantom l _ ih => exact ih

theorem MeterUnit.clearSaturated_sameRows (u : MeterUnit) (r : MeterRecord) : u.SameRows (u.clearSaturated r) := by
  unfold MeterUnit.clearSaturated
  split <;> exact ⟨rfl, rfl⟩

/-- R135: the end of a meter read changes no setting. -/
theorem MeterUnit.endRead_sameRows (u : MeterUnit) (zero : Bool) (records : List MeterRecord) :
    u.SameRows (u.endRead zero records) := by
  have subtracted : u.SameRows (if zero then records.foldl MeterUnit.subtract u else u) := by
    split
    · exact List.foldlRecOn (motive := u.SameRows) _ _ (.refl u) fun v h _ _ => h.trans ⟨rfl, rfl⟩
    · exact .refl u
  unfold MeterUnit.endRead
  generalize (if zero then records.foldl MeterUnit.subtract u else u) = v at subtracted
  have cleared : u.SameRows (if zero then records.foldl MeterUnit.clearSaturated v else v) := by
    split
    · exact List.foldlRecOn (motive := u.SameRows) _ _ subtracted fun v h r _ => h.trans (v.clearSaturated_sameRows r)
    · exact subtracted
  dsimp only
  split
  · exact cleared.trans (MeterUnit.applyHeld_settings _)
  · exact subtracted

end

/-! ### The frame of a command -/

/-- R2, R3, R162: the settings of every table that the command does not set, the time unless it is a tick, and the
generations unless it is the handover of a JOB END, are as they were. -/
structure SettingsKept (c : Instr) (s t : State) : Prop where
  classes : c.sets ≠ some .cls → t.classes = s.classes := by intros; rfl
  tariff : c.sets ≠ some .tariff → t.meter.tariff = s.meter.tariff := by intros; rfl
  accounts : c.sets ≠ some .account → t.meter.accounts = s.meter.accounts := by intros; rfl
  system : c.sets ≠ some .system →
    t.intake.high = s.intake.high ∧ t.intake.low = s.intake.low ∧ t.alerts.office = s.alerts.office := by
      intros; exact ⟨rfl, rfl, rfl⟩
  pools : c.sets ≠ some .pool → ∀ p : PoolId,
    (t.pool p).threshold = (s.pool p).threshold ∧ (t.pool p).fallback = (s.pool p).fallback := by
      intros; exact ⟨rfl, rfl⟩
  lanes : c.sets ≠ some .laneConfig → ∀ l : LaneId, (t.lane l).row = (s.lane l).row := by intros; rfl
  zones : c.sets ≠ some .zone → ∀ z : ZoneId, (t.zone z).row = (s.zone z).row := by intros; rfl
  time : c ≠ .timeTick → t.time = s.time := by intros; rfl
  gens : c ≠ .jobEndHandover → ∀ i : Slot, (t.job i).gen = (s.job i).gen := by intros; rfl

/-- What a command that resets nothing does: it keeps the settings that are not its own, and the two laws of the INTAKE
UNIT. -/
structure CommandFrame (c : Instr) (s t : State) : Prop extends SettingsKept c s t where
  law : s.IntakeLaw → t.IntakeLaw := by exact id
  credit : s.CreditLaw → t.CreditLaw := by exact id

variable {c : Instr} {s t u : State}

theorem SettingsKept.trans (h : SettingsKept c s t) (k : SettingsKept c t u) : SettingsKept c s u where
  classes hc := (k.classes hc).trans (h.classes hc)
  tariff hc := (k.tariff hc).trans (h.tariff hc)
  accounts hc := (k.accounts hc).trans (h.accounts hc)
  system hc := by
    obtain ⟨high, low, office⟩ := h.system hc
    obtain ⟨high', low', office'⟩ := k.system hc
    exact ⟨high'.trans high, low'.trans low, office'.trans office⟩
  pools hc p := ⟨(k.pools hc p).1.trans (h.pools hc p).1, (k.pools hc p).2.trans (h.pools hc p).2⟩
  lanes hc l := (k.lanes hc l).trans (h.lanes hc l)
  zones hc z := (k.zones hc z).trans (h.zones hc z)
  time hc := (k.time hc).trans (h.time hc)
  gens hc i := (k.gens hc i).trans (h.gens hc i)

theorem CommandFrame.refl (s : State) : CommandFrame c s s := {}

theorem CommandFrame.trans (h : CommandFrame c s t) (k : CommandFrame c t u) : CommandFrame c s u :=
  { h.toSettingsKept.trans k.toSettingsKept with law := k.law ∘ h.law, credit := k.credit ∘ h.credit }

theorem CommandFrame.foldl {α : Type} (f : State → α → State) (hf : ∀ s a, CommandFrame c s (f s a)) (xs : List α)
    (s : State) : CommandFrame c s (xs.foldl f s) :=
  List.foldlRecOn xs f (.refl s) fun t h a _ => h.trans (hf t a)

/-! ### The shared operations -/

/-- R42, R165: the law on CREDIT counts is stable: of the shared operations only a grant evaluation reaches it. -/
theorem creditLaw_stable : Stable State.CreditLaw where
  jobs _ h := h
  lanes _ h := h
  pools _ h := h
  meter _ h := h
  alerts _ h := h
  returned _ h := h
  intakeState _ h := h
  grant h := State.evalGrant_creditLaw _ h

/-- R42, R165: the law on CREDIT counts holds where no CREDIT waits, none is in flight and nothing is kept apart. -/
theorem State.creditLaw_of_empty (waiting : s.intake.waiting = none) (kept : s.intake.kept = 0)
    (tx : s.link.tx = none) : s.CreditLaw := by
  simp [State.CreditLaw, waiting, kept, tx]

/-- What the shared operations leave alone covers every setting. -/
theorem Kept.settings (h : Kept s t) (hm : s.meter.SameRows t.meter) (ha : s.alerts.SameRows t.alerts) :
    SettingsKept c s t where
  classes _ := h.classes
  tariff _ := hm.1
  accounts _ := hm.2
  system _ := ⟨h.high, h.low, ha.1⟩
  pools _ := h.pools
  lanes _ := h.rows
  zones _ := ha.2
  time _ := h.time
  gens _ := h.gens

theorem Quiet.frame (h : Quiet s t) : CommandFrame c s t :=
  { h.toKept.settings h.meter.sameRows h.alerts.sameRows with law := h.law, credit := h.stable creditLaw_stable }

/-! ### Writers that only some commands use -/

/-- No CREDIT frame is in flight. -/
def State.NoCreditInFlight (s : State) : Prop := ∀ n, s.link.tx ≠ some (.credit n)

theorem State.NoCreditInFlight.of_tx {f : UplinkFrame} (h : s.link.tx = some f) (hf : ∀ n, f ≠ .credit n) :
    s.NoCreditInFlight := fun n e => hf n (Option.some.inj (h.symm.trans e))

/-- A change of the LINK PORT that leaves the frame in flight as it was. -/
theorem CommandFrame.of_link (s : State) (k : LinkPort) (h : k.tx = s.link.tx := by rfl) :
    CommandFrame c s { s with link := k } :=
  { credit := fun ⟨waiting, kept, flying, apart⟩ =>
      ⟨waiting, kept, fun n e => flying n (h ▸ e), fun r no => apart r fun n => h ▸ no n⟩ }

/-- A change of the LINK PORT of a running part, with no CREDIT in flight before it nor after it. -/
theorem CommandFrame.of_tx (s : State) (k : LinkPort) (hr : s.Running) (hs : s.NoCreditInFlight)
    (hk : ∀ n, k.tx ≠ some (.credit n)) : CommandFrame c s { s with link := k } :=
  { credit := fun ⟨waiting, kept, _, apart⟩ =>
      ⟨waiting, kept, fun n e => absurd e (hk n), fun _ _ => apart hr hs⟩ }

theorem CommandFrame.of_alerts (s : State) (x : AlertUnit) (h : s.alerts.SameRows x) :
    CommandFrame c s { s with alerts := x } :=
  { system := fun _ => ⟨rfl, rfl, h.1⟩, zones := fun _ => h.2 }

theorem CommandFrame.of_meter (s : State) (x : MeterUnit) (h : s.meter.SameRows x) :
    CommandFrame c s { s with meter := x } :=
  { tariff := fun _ => h.1, accounts := fun _ => h.2 }

theorem State.answer_frame (s : State) (r : Response) : CommandFrame c s (s.answer r) := .of_link s _

theorem State.refuse_frame (s : State) (kind : Byte) (code : RefusalCode) (item : RefuseItem) :
    CommandFrame c s (s.refuse kind code item) := s.answer_frame _

theorem State.discardUntaken_frame (s : State) : CommandFrame c s s.discardUntaken := .of_link s _

theorem State.linkError_frame (s : State) : CommandFrame c s s.linkError := .of_link s _

theorem State.setSync_frame (s : State) (b : Bool) : CommandFrame c s (s.setSync b) := .of_link s _

theorem State.reply_frame (s : State) (r : Reply) : CommandFrame c s (s.reply r) := .of_link s _

theorem State.abandonHold_frame (s : State) : CommandFrame c s s.abandonHold :=
  .of_meter s _ (MeterUnit.abandon_settings _)

theorem State.reevaluate_quiet (s : State) (a : AccountId) : Quiet s (s.reevaluate a) := by
  refine Quiet.foldl _ (fun s i => ?_) _ s
  unfold State.reevaluateSlot
  repeat' split
  · exact s.makeReady_quiet i
  all_goals exact .refl s

/-! ### The guards -/

theorem State.whenRunning_frame {act : State → State} (h : s.Running → CommandFrame c s (act s)) :
    CommandFrame c s (s.whenRunning act) := by
  unfold State.whenRunning
  split
  · exact .refl s
  · rename_i hr; exact h (by simpa using hr)

theorem State.whenUp_frame {act : State → State} (h : s.Running → CommandFrame c s (act s)) :
    CommandFrame c s (s.whenUp act) := by
  refine State.whenRunning_frame fun hr => ?_
  split
  · exact h hr
  · exact .refl s

theorem State.onFrame_frame {act : State → State} (h : CommandFrame c s (act s)) : CommandFrame c s (s.onFrame act) := by
  rcases s.onFrame_cases act with e | e <;> rw [e]
  · exact .refl s
  · exact h

theorem State.onRequest_frame {act : State → State} (h : CommandFrame c s (act s)) :
    CommandFrame c s (s.onRequest act) := by
  rcases s.onRequest_cases act with e | e | ⟨_, e⟩ <;> rw [e]
  · exact .refl s
  · exact s.discardUntaken_frame
  · exact h

theorem State.onSized_frame {act : State → State} {fits : Bool} (h : CommandFrame c s (act s)) :
    CommandFrame c s (s.onSized fits act) := by
  rcases s.onSized_cases fits act with e | e | e | ⟨_, _, e⟩ <;> rw [e]
  · exact .refl s
  · exact s.linkError_frame
  · exact s.discardUntaken_frame
  · exact h

theorem State.onLaneControl_frame {lane action : Byte} {act : LaneId → State → State}
    (h : ∀ l, CommandFrame c s (act l s)) : CommandFrame c s (s.onLaneControl lane action act) := by
  refine State.onRequest_frame ?_
  split
  · exact h _
  · exact s.refuse_frame ..

theorem State.setTable_frame {tb : Table} {first count : Byte} {store : State → State} (h : CommandFrame c s (store s)) :
    CommandFrame c s (s.setTable tb first count store) := by
  unfold State.setTable
  split
  · exact s.refuse_frame ..
  · exact h

theorem State.onZone_frame {z : ZoneId} {act : Zone → Zone} (h : (act (s.zone z)).row = (s.zone z).row) :
    CommandFrame c s (s.onZone z act) :=
  State.whenRunning_frame fun _ => .of_alerts s _ (s.alerts.setZone_sameRows z _ h)

end Sys2Proof.Machine
end

section
/-!
PROOF. The frame of every command that resets nothing, command by command.
-/
namespace Sys2Proof.Machine

set_option Elab.async false

variable {c : Instr} {s t : State}

/-! ### Alerts -/

theorem State.removeAlerts_frame (s : State) (drop : AlertEntry → Bool) : CommandFrame c s (s.removeAlerts drop) :=
  .of_alerts s _ (s.alerts.remove_sameRows s.time drop)

theorem execAckAlert_frame {sourceType sourceNumber kind : Byte}
    (h : execAckAlert sourceType sourceNumber kind s = .next t) : CommandFrame c s t := by
  cases h
  refine State.onRequest_frame ?_
  split
  · split
    · exact s.removeAlerts_frame _
    · exact s.refuse_frame ..
  · exact s.refuse_frame ..

theorem execAckZone_frame {zone : Byte} (h : execAckZone zone s = .next t) : CommandFrame c s t := by
  cases h
  refine State.onRequest_frame ?_
  split
  · exact s.removeAlerts_frame _
  · exact s.refuse_frame ..

/-! ### OPEN, CLOSE, CANCEL, RELEASE -/

theorem execOpen_frame {tag : Word} {cls account : Byte} (h : execOpen tag cls account s = .next t) :
    CommandFrame c s t := by
  cases h
  refine State.onRequest_frame ?_
  split
  · exact s.refuse_frame ..
  · rename_i cl p a i _
    have opened := s.setJob_quiet i (s.openedJob tag cl p a i) rfl
    exact (opened.frame.trans {}).trans (State.answer_frame ..)

theorem State.closed_quiet (s : State) (i : Slot) : Quiet s (s.closed i) := by
  unfold State.closed
  split
  · split
    · exact s.endNow_quiet ..
    · exact s.makeReady_quiet i
  · split
    · exact s.endNow_quiet ..
    · exact .refl s
  · split
    · exact s.endNow_quiet ..
    · exact .refl s
  · split
    · split
      · exact s.complete_quiet ..
      · exact s.wake_quiet ..
    · exact .refl s
  all_goals exact .refl s

theorem execClose_frame {h : Handle} {seq : Half} (ht : execClose h seq s = .next t) : CommandFrame c s t := by
  cases ht
  refine State.onRequest_frame ?_
  split
  · exact s.refuse_frame ..
  · split
    · exact .refl s
    · split
      · exact s.refuse_frame ..
      · split
        · exact (s.fail_quiet ..).frame
        · exact ((s.setJob_quiet ..).trans (State.closed_quiet ..)).frame

theorem State.cancelJob_frame (s : State) (h : Handle) : CommandFrame c s (s.cancelJob h) := by
  unfold State.cancelJob
  split
  case h_4 =>
    split
    · exact s.refuse_frame ..
    · exact ((s.setJob_quiet ..).trans (State.requestStop_quiet ..)).frame
  case h_5 => exact s.refuse_frame ..
  case h_6 => exact .refl s
  all_goals exact (s.endNow_quiet ..).frame

theorem execCancel_frame {h : Handle} (ht : execCancel h s = .next t) : CommandFrame c s t := by
  cases ht
  refine State.onRequest_frame ?_
  split
  · exact s.cancelJob_frame h
  · exact s.refuse_frame ..

theorem execRelease_frame {h : Handle} (ht : execRelease h s = .next t) : CommandFrame c s t := by
  cases ht
  refine State.onRequest_frame ?_
  split
  · exact s.refuse_frame ..
  · split
    · split
      · exact (s.makeReady_quiet _).frame
      · exact (s.setJob_quiet ..).frame
    · exact s.refuse_frame ..

/-! ### DATA and MARK -/

/-- R26, R28: the block an item needs is the head of the free-block list, and its job's chain takes it. -/
theorem State.roomFor_cases {i : Slot} {size : Nat} (h : s.roomFor i size = some t) :
    (needsBlock (s.job i).storedEnd size = false ∧ t = s) ∨
      (needsBlock (s.job i).storedEnd size = true ∧ ∃ (b : Nat) (free : List Nat) (j : Job),
        s.store.free = b :: free ∧ j.gen = (s.job i).gen ∧
          t = ({ s with store := { s.store with free := free } } : State).setJob i j) := by
  unfold State.roomFor at h
  split at h
  · unfold State.takeBlock at h
    split at h
    · cases h
    · rename_i b free hf
      exact .inr ⟨‹_›, b, free, _, hf, by rfl, (Option.some.inj h).symm⟩
  · exact .inl ⟨by simpa using ‹¬needsBlock _ _ = true›, (Option.some.inj h).symm⟩

/-- R28: an append takes a block from the head of the free-block list and has the INTAKE UNIT re-evaluate, or takes none;
it writes the job's record and the stored bytes. -/
theorem State.append_cases {i : Slot} {body : ItemBody} {payload : List Byte} (h : s.append i body payload = .next t) :
    ∃ (free : List Nat) (dram : Memory) (j : Job), j.gen = (s.job i).gen ∧
      let u := ({ s with store := { s.store with free := free, dram := dram } } : State).setJob i j
      (free = s.store.free ∧ t = u) ∨ ((∃ b, s.store.free = b :: free) ∧ t = u.checkIntake.evalGrant) := by
  unfold State.append at h
  split at h
  · cases h
  · rename_i u hu
    split at h
    · cases h
    · rename_i dram _
      cases h
      rcases State.roomFor_cases hu with ⟨hn, rfl⟩ | ⟨hn, b, free, j, hf, gen, rfl⟩
      · rw [hn]
        exact ⟨u.store.free, dram, (u.job i).append body, rfl, .inl ⟨rfl, rfl⟩⟩
      · rw [hn, if_pos rfl, State.job_setJob_same]
        refine ⟨free, dram, j.append body, gen, .inr ⟨⟨b, hf⟩, ?_⟩⟩
        exact congrArg (fun u : State => u.checkIntake.evalGrant) (State.setJob_setJob
          { s with store := { s.store with free := free, dram := dram } } i j (j.append body))

/-- R41: the law on credits, for a frame that has spent one: a free block is left for it. -/
theorem State.consumeCredit_law (h : s.IntakeLaw) (ho : s.intake.outstanding ≠ 0) :
    s.consumeCredit.IntakeLaw ∧ s.consumeCredit.intake.outstanding < s.consumeCredit.store.free.length := by
  obtain ⟨blocks, lowHigh, high, run, stop, free, most⟩ := h
  have free' : s.intake.outstanding - 1 < s.store.free.length := by omega
  exact ⟨⟨blocks, lowHigh, high, run, stop, Nat.le_of_lt free', by
    show s.intake.outstanding - 1 ≤ 64
    omega⟩, free'⟩

theorem State.append_frame {i : Slot} {body : ItemBody} {payload : List Byte} (ho : s.intake.outstanding ≠ 0)
    (h : s.consumeCredit.append i body payload = .next t) : CommandFrame c s t := by
  obtain ⟨free, dram, j, gen, h⟩ := State.append_cases h
  let v : State := { s.consumeCredit with store := { s.consumeCredit.store with free := free, dram := dram } }
  have written : SettingsKept c s (v.setJob i j) :=
    SettingsKept.trans (t := v) {} (v.setJob_quiet i j gen).frame.toSettingsKept
  rcases h with ⟨rfl, rfl⟩ | ⟨⟨b, hb⟩, rfl⟩
  · exact { written with law := fun l => (State.consumeCredit_law l ho).1 }
  · have evaluated := (v.setJob i j).checkIntake_quiet.trans (State.evalGrant_quiet _)
    refine { written.trans evaluated.frame.toSettingsKept with
      law := fun l => ?_, credit := evaluated.stable creditLaw_stable }
    obtain ⟨⟨blocks, lowHigh, high, -, -, -, most⟩, lt⟩ := State.consumeCredit_law l ho
    rw [hb] at lt
    exact (State.evalGrant_kept _).law
      (State.checkIntake_law _ ⟨blocks, lowHigh, high, Nat.le_of_lt_succ lt, most⟩)

theorem State.refuseContent_frame (s : State) (kind : Byte) (code : RefusalCode) (h : Handle) :
    CommandFrame c s (s.refuseContent kind code h) := by
  unfold State.refuseContent
  split
  · exact s.refuse_frame ..
  · exact s.discardUntaken_frame

theorem State.overrun_quiet (s : State) (i : Slot) : Quiet s (s.overrun i) :=
  (s.setJob_quiet ..).trans (State.fail_quiet ..)

/-- R29: a content frame that is not taken is refused, discarded or fails its job; one that is taken spent a credit. -/
theorem State.settleContent_frame {s₀ : State} {kind : Byte} {h : Handle} {seq : Half} {credited : Bool}
    {take : State → Out}
    (taken : credited = true → take s = .next t → CommandFrame c s₀ t) (spent : CommandFrame c s₀ s)
    (ht : s.settleContent kind h seq credited take = .next t) : CommandFrame c s₀ t := by
  unfold State.settleContent at ht
  split at ht
  · cases ht; exact spent.trans (s.refuseContent_frame ..)
  · split at ht
    · cases ht; exact spent
    · split at ht
      · cases ht; exact spent.trans (s.refuseContent_frame ..)
      · split at ht
        · cases ht; exact spent.trans (s.overrun_quiet _).frame
        · split at ht
          · cases ht; exact spent.trans (s.fail_quiet ..).frame
          · exact taken (by simpa using ‹¬(!credited) = true›) ht

/-- The next state of a mapped outcome is the image of a next state. -/
theorem Out.map_next {o : Out} {f : State → State} (h : Out.map o f = .next t) : ∃ u, o = .next u ∧ t = f u := by
  cases o <;> cases h
  exact ⟨_, rfl, rfl⟩

theorem State.intakeFrame_frame {kind : Byte} {h : Handle} {seq : Half} {take : State → Out}
    (taken : ∀ u, s.intake.outstanding ≠ 0 → take s.consumeCredit = .next u → CommandFrame c s u)
    (ht : s.intakeFrame kind h seq take = .next t) : CommandFrame c s t := by
  unfold State.intakeFrame at ht
  split at ht
  · cases ht; exact .refl s
  · split at ht
    · exact State.settleContent_frame (credited := false) nofun (.refl s) ht
    · rename_i ho
      obtain ⟨u, hu, rfl⟩ := Out.map_next ht
      have spent : CommandFrame c s s.consumeCredit := { law := fun l => (State.consumeCredit_law l ho).1 }
      exact (State.settleContent_frame (fun _ => taken u ho) spent hu).trans (State.evalGrant_quiet u).frame

theorem execData_frame {h : Handle} {seq : Half} {payload : List Byte} (ht : execData h seq payload s = .next t) :
    CommandFrame c s t := by
  unfold execData at ht
  split at ht
  · refine State.intakeFrame_frame (fun u ho hu => ?_) ht
    obtain ⟨v, hv, rfl⟩ := Out.map_next hu
    have told := (v.setJob_quiet h.slot { v.job h.slot with nextSeq := (v.job h.slot).nextSeq + 1 } rfl).trans
      (State.tellLane_quiet _ h.slot)
    exact (State.append_frame ho hv).trans told.frame
  · cases ht; exact State.onFrame_frame s.linkError_frame

theorem State.afterMark_quiet (s : State) (i : Slot) (pos : Nat) : Quiet s (s.afterMark i pos) := by
  have marked := s.setJob_quiet i ((s.job i).marked pos) rfl
  unfold State.afterMark
  dsimp only
  generalize s.setJob i ((s.job i).marked pos) = t at marked
  have readied : Quiet s (if (t.job i).state = .filling ∧ (t.job i).thresholdMet = true then t.makeReady i else t) := by
    split
    · exact marked.trans (t.makeReady_quiet i)
    · exact marked
  generalize (if (t.job i).state = .filling ∧ (t.job i).thresholdMet = true then t.makeReady i else t) = u at readied ⊢
  have told := readied.trans (u.tellLane_quiet i)
  split
  · exact told.trans (State.forcedStart_quiet _)
  · exact told

theorem execMark_frame {h : Handle} {seq : Half} {media sides colour : Byte}
    (ht : execMark h seq media sides colour s = .next t) : CommandFrame c s t := by
  refine State.intakeFrame_frame (fun u ho hu => ?_) ht
  obtain ⟨v, hv, rfl⟩ := Out.map_next hu
  exact (State.append_frame ho hv).trans (State.afterMark_quiet ..).frame

end Sys2Proof.Machine
end

section
/-!
PROOF. The frame of every command that resets nothing, continued: SET, GET and METER READ, LANE CONTROL, the LINK PORT, the
supplies and the zones; and the frame of them all.
-/
namespace Sys2Proof.Machine

set_option Elab.async false

variable {c : Instr} {s t : State}

/-! ### SET -/

/-- R40: the law on credits but for the intake state holds with the watermarks as stored. -/
theorem State.storeSystem_core (w : SystemWrite) (h : s.IntakeLaw) : (s.storeSystem w).IntakeCore := by
  obtain ⟨blocks, -, -, -, -, free, most⟩ := h
  have some_block : 1 ≤ s.store.blockCount := by
    simp only [List.mem_cons, List.not_mem_nil, or_false] at blocks
    omega
  have high : 1 ≤ highOf s.store.blockCount w.high.toNat ∧ highOf s.store.blockCount w.high.toNat ≤ s.store.blockCount := by
    unfold highOf clamp
    repeat' split
    all_goals omega
  have low : lowOf (highOf s.store.blockCount w.high.toNat) w.low.toNat < highOf s.store.blockCount w.high.toNat := by
    unfold lowOf clamp
    repeat' split
    all_goals omega
  exact ⟨blocks, low, high.2, free, most⟩

theorem State.setSystemRow_frame (hc : c.sets = some .system) (s : State) (w : SystemWrite) :
    CommandFrame c s (s.setSystemRow w) := by
  have stored : SettingsKept c s (s.storeSystem w) := { system := fun h => absurd hc h }
  unfold State.setSystemRow
  dsimp only
  split
  · have evaluated := (s.storeSystem w).checkIntake_quiet.trans (State.evalGrant_quiet _)
    exact { stored.trans evaluated.frame.toSettingsKept with
      law := fun h => (State.evalGrant_kept _).law (State.checkIntake_law _ (State.storeSystem_core w h))
      credit := evaluated.stable (P := State.CreditLaw) creditLaw_stable }
  · rename_i same
    obtain ⟨high, low⟩ : (s.storeSystem w).intake.high = s.intake.high ∧ (s.storeSystem w).intake.low = s.intake.low := by
      simpa only [ne_eq, not_or, Classical.not_not] using same
    refine { stored with law := fun ⟨blocks, order, top, run, stop, rest⟩ => ?_ }
    exact ⟨blocks, high ▸ low ▸ order, high ▸ top, low ▸ run, high ▸ stop, rest⟩

theorem execSetSystem_frame {first count : Byte} {rows : List SystemWrite} (hc : c.sets = some .system)
    (h : execSetSystem first count rows s = .next t) : CommandFrame c s t := by
  cases h
  exact State.onSized_frame (State.setTable_frame
    (.foldl _ (fun s (p : Fin 1 × SystemWrite) => s.setSystemRow_frame hc p.2) _ s))

theorem execSetClass_frame {first count : Byte} {rows : List ClassWrite} (hc : c.sets = some .cls)
    (h : execSetClass first count rows s = .next t) : CommandFrame c s t := by
  cases h
  exact State.onSized_frame (State.setTable_frame (.foldl _ (fun _ _ => { classes := fun h => absurd hc h }) _ s))

theorem State.setPools_frame (hc : c.sets = some .pool) (s : State) (rows : List (PoolId × PoolWrite)) :
    CommandFrame c s (s.setPools rows) := by
  have stored : CommandFrame c s (rows.foldl State.storePool s) :=
    .foldl _ (fun _ _ => { pools := fun h => absurd hc h }) _ s
  unfold State.setPools
  dsimp only
  split
  · exact stored.trans (State.dispatch_quiet _).frame
  · exact stored

theorem execSetPool_frame {first count : Byte} {rows : List PoolWrite} (hc : c.sets = some .pool)
    (h : execSetPool first count rows s = .next t) : CommandFrame c s t := by
  cases h
  exact State.onSized_frame (State.setTable_frame (s.setPools_frame hc _))

theorem State.setLanes_frame (hc : c.sets = some .laneConfig) (s : State) (rows : List (LaneId × LaneWrite)) :
    CommandFrame c s (s.setLanes rows) := by
  have stored : CommandFrame c s (rows.foldl State.storeLane s) :=
    .foldl _ (fun _ _ => { lanes := fun h => absurd hc h }) _ s
  unfold State.setLanes
  dsimp only
  split
  · exact stored.trans (State.dispatch_quiet _).frame
  · exact stored

theorem execSetLaneConfig_frame {first count : Byte} {rows : List LaneWrite} (hc : c.sets = some .laneConfig)
    (h : execSetLaneConfig first count rows s = .next t) : CommandFrame c s t := by
  cases h
  exact State.onSized_frame (State.setTable_frame (s.setLanes_frame hc _))

theorem execSetTariff_frame {first count : Byte} {rows : List TariffWrite} (hc : c.sets = some .tariff)
    (h : execSetTariff first count rows s = .next t) : CommandFrame c s t := by
  cases h
  exact State.onSized_frame (State.setTable_frame (.foldl _ (fun _ _ => { tariff := fun h => absurd hc h }) _ s))

theorem State.setAccounts_frame (hc : c.sets = some .account) (s : State) (rows : List (AccountId × AccountWrite)) :
    CommandFrame c s (s.setAccounts rows) :=
  (CommandFrame.foldl _ (fun _ _ => { accounts := fun h => absurd hc h }) rows s).trans
    (Quiet.foldl _ State.reevaluate_quiet _ _).frame

theorem execSetAccount_frame {first count : Byte} {rows : List AccountWrite} (hc : c.sets = some .account)
    (h : execSetAccount first count rows s = .next t) : CommandFrame c s t := by
  cases h
  exact State.onSized_frame (State.setTable_frame (s.setAccounts_frame hc _))

theorem execSetZone_frame {first count : Byte} {rows : List ZoneWrite} (hc : c.sets = some .zone)
    (h : execSetZone first count rows s = .next t) : CommandFrame c s t := by
  cases h
  exact State.onSized_frame (State.setTable_frame (.foldl _ (fun _ _ => { zones := fun h => absurd hc h }) _ s))

/-! ### GET and METER READ -/

theorem execGet_frame {table first count : Byte} (h : execGet table first count s = .next t) : CommandFrame c s t := by
  cases h
  refine State.onRequest_frame ?_
  split
  · exact s.refuse_frame ..
  · repeat' split
    · exact s.refuse_frame ..
    · exact s.refuse_frame ..
    · exact s.reply_frame _

theorem execMeterRead_frame {first count : Byte} {zero : Bool} (h : execMeterRead first count zero s = .next t) :
    CommandFrame c s t := by
  cases h
  refine State.onRequest_frame ?_
  repeat' split
  · exact s.refuse_frame ..
  · exact s.refuse_frame ..
  · exact s.refuse_frame ..
  · exact (CommandFrame.of_meter s _ (by exact ⟨rfl, rfl⟩)).trans (State.reply_frame ..)

/-! ### LANE CONTROL -/

theorem State.refuseLane_frame (s : State) (code : RefusalCode) (lane action : Byte) :
    CommandFrame c s (s.refuseLane code lane action) := s.refuse_frame ..

theorem execEnable_frame {lane : Byte} (h : execEnable lane s = .next t) : CommandFrame c s t := by
  cases h
  refine State.onLaneControl_frame fun l => ?_
  split
  · exact s.refuseLane_frame ..
  · unfold State.enableLane
    split <;> exact (s.setLane_quiet ..).frame

@[simp] theorem Lane.syncPool_row (l : Lane) : l.syncPool.row = l.row := by
  unfold Lane.syncPool
  split <;> rfl

theorem State.offlineNow_quiet (s : State) (l : LaneId) : Quiet s (s.offlineNow l) :=
  (s.setLane_quiet l _ ((Lane.syncPool_row _).trans (Lane.enter_row ..))).trans (State.dispatch_quiet _)

theorem State.disableLane_quiet (s : State) (l : LaneId) : Quiet s (s.disableLane l) := by
  unfold State.disableLane
  dsimp only
  split
  · exact (s.setLane_quiet ..).trans (State.offlineNow_quiet ..)
  · exact (s.setLane_quiet ..).trans (State.requestStop_quiet ..)

theorem execDisable_frame {lane : Byte} (h : execDisable lane s = .next t) : CommandFrame c s t := by
  cases h
  refine State.onLaneControl_frame fun l => ?_
  split
  · exact (s.disableLane_quiet l).frame
  · exact s.refuseLane_frame ..

@[simp] theorem Lane.initialise_row (l : Lane) (now : Time) : (l.initialise now).row = l.row := Lane.lose_row l now

theorem State.initLane_quiet (s : State) (l : LaneId) : Quiet s (s.initLane l) :=
  (((s.loseJob_quiet l).trans (State.setLane_quiet _ l _ (Lane.initialise_row ..))).trans
    (State.dispatch_quiet _)).trans (State.checkFallen_quiet ..)

theorem State.resumeLane_quiet (s : State) (l : LaneId) : Quiet s (s.resumeLane l) := by
  unfold State.resumeLane
  dsimp only
  split
  · exact s.setLane_quiet ..
  · exact (s.setLane_quiet ..).trans (State.recover_quiet ..)

theorem execResume_frame {lane : Byte} (h : execResume lane s = .next t) : CommandFrame c s t := by
  cases h
  refine State.onLaneControl_frame fun l => ?_
  split
  · exact (s.resumeLane_quiet l).frame
  · exact s.refuseLane_frame ..

theorem execCommand_frame {lane code : Byte} (h : execCommand lane code s = .next t) : CommandFrame c s t := by
  cases h
  refine State.onLaneControl_frame fun l => ?_
  split
  · exact s.refuseLane_frame ..
  · split
    · exact (s.setLane_quiet ..).frame
    · exact s.refuseLane_frame ..

theorem execCancelCommand_frame {lane : Byte} (h : execCancelCommand lane s = .next t) : CommandFrame c s t := by
  cases h
  refine State.onLaneControl_frame fun l => ?_
  split
  · exact (s.setLane_quiet ..).frame
  · exact s.refuseLane_frame ..

/-! ### The uplink -/

theorem execUnknownKind_frame {form : UnknownForm} (h : execUnknownKind form s = .next t) : CommandFrame c s t := by
  cases h
  refine State.onRequest_frame ?_
  unfold State.refuseUnknown
  repeat' split
  all_goals exact s.refuse_frame ..

/-- A frame that is no CREDIT becomes the frame in flight of a running part with no CREDIT in flight. -/
theorem State.putTx_frame (s : State) (f : UplinkFrame) (hr : s.Running) (hs : s.NoCreditInFlight)
    (hf : ∀ n, f ≠ .credit n) : CommandFrame c s (s.putTx f) :=
  .of_tx s _ hr hs fun n e => hf n (Option.some.inj e)

/-- R42, R165: the waiting CREDIT becomes the one in flight; nothing is kept apart yet. -/
theorem State.startCredit_frame (s : State) (n : Nat) (hr : s.Running) (hs : s.NoCreditInFlight)
    (hw : s.intake.waiting = some n) : CommandFrame c s (s.startCredit n) where
  credit := fun ⟨waiting, _, _, apart⟩ => by
    have none_kept : s.intake.kept = 0 := apart hr hs
    obtain ⟨pos, most⟩ := waiting n hw
    refine ⟨nofun, ?_, fun m hm => ?_, fun _ no => absurd rfl (no n)⟩
    · show s.intake.kept ≤ 64
      omega
    · obtain rfl : n = m := by injection hm with e; injection e
      exact ⟨pos, show n + s.intake.kept ≤ 64 by omega⟩

theorem State.startAlert_frame (s : State) (e : AlertEntry) (hr : s.Running) (hs : s.NoCreditInFlight) :
    CommandFrame c s (s.startAlert e) :=
  (CommandFrame.of_alerts s (s.alerts.startFrame e) (.refl _)).trans (State.putTx_frame _ _ hr hs nofun)

theorem State.startLower_frame (s : State) (hr : s.Running) (hs : s.NoCreditInFlight) :
    CommandFrame c s s.startLower := by
  unfold State.startLower
  split
  · rename_i r _ _
    exact s.putTx_frame _ hr hs (by cases r <;> nofun)
  · split
    · exact s.putTx_frame _ hr hs nofun
    · split
      · exact s.startAlert_frame _ hr hs
      · exact .refl s

theorem State.startNext_frame (s : State) (hr : s.Running) (hs : s.NoCreditInFlight) : CommandFrame c s s.startNext := by
  unfold State.startNext
  split
  · exact s.startCredit_frame _ hr hs ‹_›
  · split
    · exact s.putTx_frame _ hr hs nofun
    · split
      · exact s.startAlert_frame _ hr hs
      · exact s.startLower_frame hr hs

theorem execUplinkFrameStart_frame (h : execUplinkFrameStart s = .next t) : CommandFrame c s t := by
  cases h
  refine State.whenUp_frame fun hr => ?_
  split
  · exact s.startNext_frame hr (by simp [State.NoCreditInFlight, *])
  · exact .refl s

theorem State.readRow_quiet (s : State) (tb : Table) (r : Nat) : Quiet s (s.readRow tb r) := by
  unfold State.readRow
  split
  · exact s.setLane_quiet ..
  · exact .refl s

theorem State.serialiseNext_frame (s : State) (hr : s.Running) : CommandFrame c s s.serialiseNext := by
  unfold State.serialiseNext
  split
  · rename_i tb first run rows htx
    have none_flying : s.NoCreditInFlight := .of_tx htx nofun
    split
    · rename_i r _
      have read := s.readRow_quiet tb r
      refine read.frame.trans (State.putTx_frame _ _ ?_ ?_ nofun)
      · rwa [State.Running, read.supply]
      · rwa [State.NoCreditInFlight, read.link]
    · exact .refl s
  · rename_i htx
    have none_flying : s.NoCreditInFlight := .of_tx htx nofun
    split <;> exact s.putTx_frame _ hr none_flying nofun
  all_goals exact .refl s

/-- A frame that is no CREDIT is handed over. -/
theorem State.handOver_frame (s : State) (f : UplinkFrame) (hr : s.Running) (hs : s.NoCreditInFlight) :
    CommandFrame c s (s.handOver f) := .of_tx s _ hr hs nofun

/-- R42: the CREDIT in flight is handed over, and what was kept apart waits. -/
theorem State.creditHandover_frame (s : State) (n : Nat) :
    CommandFrame c s (({ s with intake := s.intake.takeKept } : State).handOver (.credit n)) where
  credit := fun ⟨_, kept, _, _⟩ => by
    refine ⟨fun m hm => ?_, Nat.zero_le _, nofun, fun _ _ => rfl⟩
    have hm : (if s.intake.kept = 0 then none else some s.intake.kept) = some m := hm
    split at hm
    · cases hm
    · cases hm
      omega

theorem execCreditHandover_frame (h : execCreditHandover s = .next t) : CommandFrame c s t := by
  cases h
  refine State.whenUp_frame fun _ => ?_
  split
  · exact s.creditHandover_frame _
  · exact .refl s

theorem execResponseHandover_frame (h : execResponseHandover s = .next t) : CommandFrame c s t := by
  cases h
  refine State.whenUp_frame fun hr => ?_
  split
  · rename_i htx
    exact (CommandFrame.of_link s _).trans
      (State.handOver_frame s.dropResponse _ hr (.of_tx htx nofun))
  · exact .refl s

theorem execAlertHandover_frame (h : execAlertHandover s = .next t) : CommandFrame c s t := by
  cases h
  refine State.whenUp_frame fun hr => ?_
  split
  · rename_i a htx
    exact (CommandFrame.of_alerts s (s.alerts.settle a.source a.kind) (.refl _)).trans
      (State.handOver_frame _ _ hr (.of_tx htx nofun))
  · exact .refl s

theorem State.endMeterRead_frame (s : State) (range : List AccountId) (zero : Bool) (records : List MeterRecord) :
    CommandFrame c s (s.endMeterRead range zero records) := by
  have ended : CommandFrame c s { s with meter := s.meter.endRead zero records } :=
    .of_meter s _ (s.meter.endRead_sameRows zero records)
  unfold State.endMeterRead
  dsimp only
  split
  · exact ended.trans (Quiet.foldl _ State.reevaluate_quiet _ _).frame
  · exact ended

theorem State.handOverReply_frame (s : State) (hr : s.Running) : CommandFrame c s s.handOverReply := by
  have handed (f : UplinkFrame) (hs : s.NoCreditInFlight) : CommandFrame c s (s.dropReply.handOver f) :=
    (CommandFrame.of_link s _).trans (State.handOver_frame s.dropReply f hr hs)
  unfold State.handOverReply
  split
  · rename_i htx
    split
    · exact handed _ (.of_tx htx nofun)
    · exact .refl s
  · rename_i htx
    split
    · exact (handed _ (.of_tx htx nofun)).trans (State.endMeterRead_frame ..)
    · exact .refl s
  · exact .refl s

/-- R22: the handover of a JOB END frees its slot, and the slot's generation rises. -/
theorem execJobEndHandover_frame (h : execJobEndHandover s = .next t) : CommandFrame .jobEndHandover s t := by
  cases h
  refine State.whenUp_frame fun hr => ?_
  split
  · rename_i e htx
    have freed : CommandFrame .jobEndHandover s (s.freeSlot e.handle.slot) := { gens := fun h => absurd rfl h }
    exact freed.trans (State.handOver_frame _ _ hr (.of_tx htx nofun))
  · exact .refl s

/-! ### LINK DOWN and LINK UP -/

/-- R136, R147, R166: the link is cut: no credit is outstanding, none waits and none is in flight. -/
theorem State.cutLink_frame (s : State) : CommandFrame c s s.cutLink where
  tariff _ := (MeterUnit.abandon_settings _).1
  accounts _ := (MeterUnit.abandon_settings _).2
  law := fun ⟨blocks, order, top, run, stop, _, _⟩ => ⟨blocks, order, top, run, stop, Nat.zero_le _, Nat.zero_le _⟩
  credit _ := State.creditLaw_of_empty rfl rfl rfl

@[simp] theorem Job.linkLost_gen (j : Job) : j.linkLost.gen = j.gen := by
  unfold Job.linkLost
  repeat' split
  all_goals rfl

theorem State.loseJobs_frame (s : State) : CommandFrame c s s.loseJobs where
  gens _ i := by simp [State.loseJobs, State.job]

theorem State.loseLink_quiet (s : State) (i : Slot) : Quiet s (s.loseLink i) := by
  unfold State.loseLink
  split
  · exact s.fail_quiet ..
  · exact s.endJob_quiet ..
  all_goals exact .refl s

theorem State.linkLost_frame (s : State) : CommandFrame c s s.linkLost :=
  (s.cutLink_frame.trans (State.loseJobs_frame _)).trans
    ((Quiet.foldl _ State.loseLink_quiet _ _).trans (State.checkFallen_quiet ..)).frame

theorem execLinkDown_frame (h : execLinkDown s = .next t) : CommandFrame c s t := by
  cases h
  refine (s.setSync_frame false).trans (State.whenRunning_frame fun _ => ?_)
  split
  · exact State.linkLost_frame _
  · exact .refl _

theorem execLinkUp_frame (h : execLinkUp s = .next t) : CommandFrame c s t := by
  cases h
  refine (s.setSync_frame true).trans (State.whenRunning_frame fun _ => ?_)
  split
  · exact .refl _
  · exact (CommandFrame.of_link _ _).trans (State.evalGrant_quiet _).frame

/-! ### The supplies -/

/-- R137: the part halts, and the frame in flight is cut off. -/
theorem State.halt_frame (s : State) : CommandFrame c s s.halt where
  credit := fun ⟨waiting, kept, _, _⟩ => ⟨waiting, kept, nofun, fun hr => absurd hr nofun⟩

theorem execSupplyDrop_frame (h : execSupplyDrop s = .next t) : CommandFrame c s t := by
  cases h
  exact State.whenRunning_frame fun _ => s.abandonHold_frame.trans (State.halt_frame _)

theorem execBackupSupplyLoss_frame (h : execBackupSupplyLoss s = .next t) : CommandFrame c s t := by
  cases h
  split
  · exact {}
  · exact .refl s

/-! ### Every command that resets nothing -/

/-- R2, R3, R39, R42, R162: a command that resets nothing moves only its own settings, moves the time only as a tick and a
generation only as the handover of a JOB END, and keeps the laws of the INTAKE UNIT. -/
theorem exec_frame (hc : c.resets = false) (h : exec c s = .next t) : CommandFrame c s t := by
  cases hl : c.onLane with
  | some l => exact (exec_onLane_quiet hl h).frame
  | none =>
    cases c
    case openJob => exact execOpen_frame h
    case data => exact execData_frame h
    case mark => exact execMark_frame h
    case close => exact execClose_frame h
    case cancel => exact execCancel_frame h
    case release => exact execRelease_frame h
    case setSystem => exact execSetSystem_frame rfl h
    case setClass => exact execSetClass_frame rfl h
    case setPool => exact execSetPool_frame rfl h
    case setLaneConfig => exact execSetLaneConfig_frame rfl h
    case setTariff => exact execSetTariff_frame rfl h
    case setAccount => exact execSetAccount_frame rfl h
    case setZone => exact execSetZone_frame rfl h
    case setOther => cases h; exact State.onSized_frame (State.refuse_frame ..)
    case get => exact execGet_frame h
    case meterRead => exact execMeterRead_frame h
    case ackAlert => exact execAckAlert_frame h
    case ackZone => exact execAckZone_frame h
    case enable => exact execEnable_frame h
    case disable => exact execDisable_frame h
    case init => cases h; exact State.onLaneControl_frame fun l => (s.initLane_quiet l).frame
    case resume => exact execResume_frame h
    case command => exact execCommand_frame h
    case cancelCommand => exact execCancelCommand_frame h
    case unknownKind => exact execUnknownKind_frame h
    case linkError => cases h; exact State.onFrame_frame s.linkError_frame
    case uplinkFrameStart => exact execUplinkFrameStart_frame h
    case serialiseRow => cases h; exact State.whenUp_frame s.serialiseNext_frame
    case creditHandover => exact execCreditHandover_frame h
    case responseHandover => exact execResponseHandover_frame h
    case alertHandover => exact execAlertHandover_frame h
    case replyHandover => cases h; exact State.whenUp_frame s.handOverReply_frame
    case jobEndHandover => exact execJobEndHandover_frame h
    case linkDown => exact execLinkDown_frame h
    case linkUp => exact execLinkUp_frame h
    case supplyDrop => exact execSupplyDrop_frame h
    case backupSupplyLoss => exact execBackupSupplyLoss_frame h
    case beaconPeriodEnd => cases h; exact State.onZone_frame (Zone.endPeriod_row ..)
    case beaconOnEnd => cases h; exact State.onZone_frame (Zone.endOn_row ..)
    case zoneEscalate => cases h; exact State.onZone_frame (Zone.escalate_row _)
    case timeTick => cases h; exact State.whenRunning_frame fun _ => { time := fun h => absurd rfl h }
    case reset | resetPin | supplyRise => cases hc
    all_goals cases hl

end Sys2Proof.Machine
end

section
/-!
PROOF. The commands that reset the part, one step, and the statements on the laws of the INTAKE UNIT and on settings, time
and generations.
-/
namespace Sys2Proof.Machine

set_option Elab.async false

variable {c : Instr} {s t : State}

/-! ### Reset -/

/-- R136, R138, R168: a command that can reset the part leaves it as it was, soft-resets it or powers it on. -/
theorem exec_resets_cases (hc : c.resets = true) (h : exec c s = .next t) :
    t = s ∨ t = s.softReset ∨ ∃ u : State, t = u.powerOn := by
  cases c
  case reset =>
    cases h
    exact (s.onFrame_cases State.softReset).imp_right .inl
  case resetPin =>
    cases h
    unfold State.whenRunning
    split
    · exact .inl rfl
    · exact .inr (.inr ⟨_, rfl⟩)
  case supplyRise =>
    cases h
    split
    · exact .inr (.inr ⟨_, rfl⟩)
    · exact .inl rfl
  all_goals cases hc

/-- R25, R26, R40: the block counts of the strap settings. -/
theorem Config.blocksOf_mem (straps : Fin 4) : Config.blocksOf straps ∈ [8192, 16384, 32768, 65536] := by
  revert straps
  decide

/-- R26, R40, R43: the law on credits holds of the part as a reset leaves it, before the first grant. -/
theorem State.cleared_law {blocks : Nat} (h : blocks ∈ [8192, 16384, 32768, 65536]) (straps : Fin 4) (inSync : Bool)
    (bank : MeterBank) : (State.cleared blocks straps inSync bank).IntakeLaw := by
  have size : 8192 ≤ blocks := by
    simp only [List.mem_cons, List.not_mem_nil, or_false] at h
    omega
  refine ⟨h, ?_, Nat.div_le_self .., fun _ => ?_, nofun, Nat.zero_le _, Nat.zero_le _⟩
  · show blocks / 16 < blocks / 8
    omega
  · show blocks / 16 < (List.range' 0 blocks).length
    rw [List.length_range']
    omega

/-- R168: what a soft reset leaves before its grant evaluation. -/
def State.softCleared (s : State) : State :=
  { State.cleared s.store.blockCount s.straps s.link.lineInSync s.abandonHold.meter.bank with
    pending := s.pending, supply := s.supply, choices := s.choices,
    store := { blockCount := s.store.blockCount, free := List.range' 0 s.store.blockCount, dram := s.store.dram } }

theorem State.softReset_eq (s : State) : s.softReset = s.softCleared.evalGrant := rfl

theorem State.softReset_law (h : s.IntakeLaw) : s.softReset.IntakeLaw :=
  State.softReset_eq s ▸ (State.evalGrant_kept s.softCleared).law
    (State.cleared_law h.1 s.straps s.link.lineInSync s.abandonHold.meter.bank)

theorem State.softReset_creditLaw (s : State) : s.softReset.CreditLaw :=
  State.softReset_eq s ▸ State.evalGrant_creditLaw s.softCleared (State.creditLaw_of_empty rfl rfl rfl)

theorem State.softReset_time (s : State) : s.softReset.time = 0 := (State.evalGrant_kept s.softCleared).time

/-- R138: the alert of a power-on reset changes the ALERT UNIT only. -/
theorem State.reportLoss_eq (s : State) (valid : Bool) : ∃ u : AlertUnit, s.reportLoss valid = { s with alerts := u } := by
  cases valid
  · exact ⟨_, rfl⟩
  · exact ⟨s.alerts, rfl⟩

theorem State.powerOn_law (s : State) : s.powerOn.IntakeLaw := by
  obtain ⟨u, e⟩ := s.poweredOn.reportLoss_eq s.supply.bankValid
  unfold State.powerOn
  rw [e]
  exact (State.evalGrant_kept _).law
    (State.cleared_law (Config.blocksOf_mem s.straps) s.straps s.link.lineInSync s.bankAfter)

theorem State.powerOn_creditLaw (s : State) : s.powerOn.CreditLaw := by
  obtain ⟨u, e⟩ := s.poweredOn.reportLoss_eq s.supply.bankValid
  unfold State.powerOn
  rw [e]
  exact State.evalGrant_creditLaw _ (State.creditLaw_of_empty rfl rfl rfl)

theorem State.powerOn_time (s : State) : s.powerOn.time = 0 := by
  obtain ⟨u, e⟩ := s.poweredOn.reportLoss_eq s.supply.bankValid
  unfold State.powerOn
  rw [e]
  exact (State.evalGrant_kept _).time

/-! ### Every command, and one step -/

/-- R39, R40, R41: every command keeps the law on credits. -/
theorem exec_intakeLaw (h : exec c s = .next t) (law : s.IntakeLaw) : t.IntakeLaw := by
  cases hc : c.resets with
  | false => exact (exec_frame hc h).law law
  | true =>
    obtain rfl | rfl | ⟨u, rfl⟩ := exec_resets_cases hc h
    · exact law
    · exact State.softReset_law law
    · exact u.powerOn_law

/-- R42, R165: every command keeps the law on the counts of CREDIT frames. -/
theorem exec_creditLaw (h : exec c s = .next t) (law : s.CreditLaw) : t.CreditLaw := by
  cases hc : c.resets with
  | false => exact (exec_frame hc h).credit law
  | true =>
    obtain rfl | rfl | ⟨u, rfl⟩ := exec_resets_cases hc h
    · exact law
    · exact s.softReset_creditLaw
    · exact u.powerOn_creditLaw

/-- Log entry 1: a step idles, or runs the command at the front of the queue. -/
theorem step_cases (h : step s = .next t) :
    t = s ∨ ∃ (c : Instr) (rest : List Instr), s.pending = c :: rest ∧ exec c { s with pending := rest } = .next t := by
  unfold step at h
  split at h
  · exact .inl (by cases h; rfl)
  · exact .inr ⟨_, _, ‹_›, h⟩

/-- A property that every command keeps, whatever waits in the queue, is kept by every step. -/
theorem step_keeps {P : State → Prop} (queue : ∀ (s : State) (rest : List Instr), P s → P { s with pending := rest })
    (command : ∀ (c : Instr) (s t : State), exec c s = .next t → P s → P t) (hs : P s) (h : step s = .next t) : P t := by
  obtain rfl | ⟨c, rest, _, hx⟩ := step_cases h
  · exact hs
  · exact command c _ t hx (queue s rest hs)

end Sys2Proof.Machine
end

section
/-!
PROOF. The statements of the family 00_scope.md on laws, settings, time and the step.
-/
namespace Sys2Proof.Machine

set_option Elab.async false

/-- Settles O12: of the commands that reset nothing by their frame, of the others by the state a reset leaves. -/
theorem stepKeepsIntakeLaw : Obligations.StepKeepsIntakeLaw :=
  ⟨fun _ _ law h => step_keeps (fun _ _ p => p) (fun _ _ _ => exec_intakeLaw) law h,
    fun _ _ law h => step_keeps (fun _ _ p => p) (fun _ _ _ => exec_creditLaw) law h⟩

/-- Settles O7, by the frame of each command. -/
theorem settingsTimeAndGenerationsMoveOnlyByTheirCommands :
    Obligations.SettingsTimeAndGenerationsMoveOnlyByTheirCommands := by
  refine ⟨fun c s t h hc => ?_, fun c s t h hc => ?_, fun c s t h hc => (exec_frame hc h).gens⟩
  · have f := exec_frame hc h
    exact ⟨f.classes, f.tariff, f.accounts, f.system, f.pools,
      fun hs l => by simpa [Lane.row] using f.lanes hs l, fun hs z => by simpa [Zone.row] using f.zones hs z⟩
  · cases hr : c.resets with
    | false => exact .inl ((exec_frame hr h).time hc)
    | true =>
      obtain rfl | rfl | ⟨u, rfl⟩ := exec_resets_cases hr h
      · exact .inl rfl
      · exact .inr ⟨rfl, s.softReset_time⟩
      · exact .inr ⟨rfl, u.powerOn_time⟩

/-- Settles O1: the two cases of the definition of `step`. -/
theorem stepTakesTheFrontCommand : Obligations.StepTakesTheFrontCommand := fun _ _ _ => ⟨rfl, rfl⟩

end Sys2Proof.Machine
end

section
/-!
PROOF. The statements of the family 00_scope.md on beacons and the tick, and on grants and the intake state.
-/
namespace Sys2Proof.Machine

set_option Elab.async false

variable {s : State}

/-! ### Beacons, escalation and the tick -/

/-- R1: a saturating sum is the lesser of the sum and the maximum. -/
theorem satAdd_eq_min (m a b : Nat) : satAdd m a b = min (a + b) m := by
  unfold satAdd
  split <;> omega

/-- R137: in RUNNING a zone command changes its zone's record only. -/
theorem State.onZone_of {z : ZoneId} {act : Zone → Zone} {x : Zone} (h : s.Running) (hx : act (s.zone z) = x) :
    s.onZone z act = { s with alerts := { s.alerts with zones := s.alerts.zones.set z.val x z.isLt } } :=
  hx ▸ s.whenRunning_of _ h

/-- A zone command that leaves the zone's record changes nothing. -/
theorem State.onZone_id {z : ZoneId} {act : Zone → Zone} (h : act (s.zone z) = s.zone z) :
    s.onZone z act = s := by
  have same : s.alerts.setZone z (s.zone z) = s.alerts := by
    simp [AlertUnit.setZone, State.zone]
  cases hr : s.supply.halted with
  | true => exact s.whenRunning_halted _ hr
  | false =>
    rw [State.onZone, State.whenRunning_of _ _ hr, h, same]

/-- R154: the escalation check sets the flag when its condition holds, and leaves it otherwise. -/
theorem Zone.escalate_eq (z : Zone) : z.escalate =
    { z with escalated := z.escalated || decide (z.display = .urgent ∧ 1 ≤ z.escalation ∧ z.escalation ≤ z.count) } := by
  unfold Zone.escalate
  split
  · rename_i h
    simp [h]
  · rename_i h
    simp [h]

/-- R153: a display class that is not DARK starts a period with the values of its pattern. -/
theorem Zone.period_eq (now : Time) {d : Display} (z : Zone) (h : d ≠ .dark) :
    z.period now d = some
      { start := now, on := if d = .urgent then z.urgentOn else z.noticeOn,
        period := if d = .urgent then z.urgentPeriod else z.noticePeriod,
        high := decide (0 < if d = .urgent then z.urgentOn else z.noticeOn) } := by
  cases d
  · rfl
  · rfl
  · exact absurd rfl h

/-- R153, R154: a period that has ended. -/
theorem Zone.endPeriod_of (now : Time) {z : Zone} {g : BeaconPeriod} (hg : z.generator = some g) (hd : z.display ≠ .dark)
    (due : 10 * g.period ≤ since now g.start) :
    let urgent := z.display = .urgent
    let on := if urgent then z.urgentOn else z.noticeOn
    let count := if urgent then min (z.count + 1) 255 else z.count
    z.endPeriod now =
      { z with
        generator := some { start := now, on := on, period := if urgent then z.urgentPeriod else z.noticePeriod,
                            high := decide (0 < on) },
        count := count,
        escalated := z.escalated || decide (urgent ∧ 1 ≤ z.escalation ∧ z.escalation ≤ count) } := by
  have reached : g.reached now g.period = true := decide_eq_true due
  unfold Zone.endPeriod
  rw [hg]
  dsimp only
  rw [if_pos reached, Zone.escalate_eq, Zone.period_eq now z hd]
  simp only [satAdd_eq_min]

/-- R153: before its end the period goes on. -/
theorem Zone.endPeriod_early (now : Time) {z : Zone} {g : BeaconPeriod} (hg : z.generator = some g)
    (early : since now g.start < 10 * g.period) : z.endPeriod now = z := by
  have reached : ¬g.reached now g.period = true := by
    simpa [BeaconPeriod.reached] using early
  unfold Zone.endPeriod
  rw [hg]
  dsimp only
  rw [if_neg reached]

/-- R153: the on ticks have passed. -/
theorem Zone.endOn_of (now : Time) {z : Zone} {g : BeaconPeriod} (hg : z.generator = some g) (low : g.on < g.period)
    (due : 10 * g.on ≤ since now g.start) : z.endOn now = { z with generator := some { g with high := false } } := by
  unfold Zone.endOn
  rw [hg]
  dsimp only
  rw [if_pos ⟨low, decide_eq_true due⟩]

/-- R153: an output that stays high for the whole period, or whose on ticks have not passed, is left as it is. -/
theorem Zone.endOn_early (now : Time) {z : Zone} {g : BeaconPeriod} (hg : z.generator = some g)
    (early : g.period ≤ g.on ∨ since now g.start < 10 * g.on) : z.endOn now = z := by
  have reached : ¬(g.on < g.period ∧ g.reached now g.on = true) := fun ⟨low, due⟩ => by
    have := of_decide_eq_true due
    simp only [Config.beaconTick] at this
    omega
  unfold Zone.endOn
  rw [hg]
  dsimp only
  rw [if_neg reached]

/-- Settles O44: a zone event writes its zone's record, which the equations of the three events give. -/
theorem beaconsEscalationAndTime : Obligations.BeaconsEscalationAndTime := by
  refine ⟨fun s z g hr law hg => ?_, fun s z hr => ?_, fun s hr => congrArg Host.Outcome.next (s.whenRunning_of _ hr)⟩
  · have lit : (s.zone z).display ≠ .dark := fun dark => by
      rw [(law z).2.1.mpr dark] at hg
      cases hg
    refine ⟨fun due => ?_, fun early => ?_, fun low due => ?_, fun early => ?_⟩
    · exact congrArg Host.Outcome.next (State.onZone_of hr (Zone.endPeriod_of s.time hg lit due))
    · exact congrArg Host.Outcome.next (State.onZone_id (Zone.endPeriod_early s.time hg early))
    · exact congrArg Host.Outcome.next (State.onZone_of hr (Zone.endOn_of s.time hg low due))
    · exact congrArg Host.Outcome.next (State.onZone_id (Zone.endOn_early s.time hg early))
  · refine ⟨fun reached => ?_, fun below => ?_⟩
    · refine ⟨_, congrArg Host.Outcome.next (State.onZone_of hr (if_pos reached)), ?_, ?_, rfl⟩
      · simp [State.beaconPin, State.zone, hr]
      · simp [State.escalatePin, State.zone, hr]
    · exact congrArg Host.Outcome.next (State.onZone_id (if_neg below))

end Sys2Proof.Machine
end

section
/-!
PROOF. Grants, the intake state and forced start, in the words of the statement.
-/
namespace Sys2Proof.Machine

set_option Elab.async false

variable {s : State}

/-! ### Grants -/

/-- R41: a grant evaluation grants at least 8 credits, or at least 1 with none outstanding. -/
theorem IntakeUnit.grants_iff (u : IntakeUnit) (free : Nat) : u.grants free = true ↔
    8 ≤ u.grantable free ∨ u.outstanding = 0 ∧ 1 ≤ u.grantable free := by
  simp [IntakeUnit.grants]

/-- R41: the condition of a grant evaluation. -/
def State.Granted (s : State) : Prop :=
  s.link.up = true ∧ s.intake.state = .run ∧
    (8 ≤ s.intake.grantable s.freeBlocks ∨ s.intake.outstanding = 0 ∧ 1 ≤ s.intake.grantable s.freeBlocks)

theorem State.evalGrant_of (h : s.Granted) : s.evalGrant =
    { s with intake := s.intake.grant (s.intake.grantable s.freeBlocks) s.link.creditInFlight } :=
  if_pos ⟨h.1, h.2.1, (IntakeUnit.grants_iff ..).mpr h.2.2⟩

theorem State.evalGrant_of_not (h : ¬s.Granted) : s.evalGrant = s :=
  if_neg fun ⟨up, run, grants⟩ => h ⟨up, run, (IntakeUnit.grants_iff ..).mp grants⟩

/-- R165: no CREDIT is in flight. -/
theorem State.NoCreditInFlight.creditInFlight (h : s.NoCreditInFlight) : s.link.creditInFlight = none := by
  unfold LinkPort.creditInFlight
  split
  · rename_i n hn
    exact absurd hn (h n)
  · rfl

/-- R42, R165: a granted amount joins the waiting CREDIT, or is kept apart. -/
theorem IntakeUnit.grant_eq (u : IntakeUnit) (g : Nat) :
    u.grant g none = { u with outstanding := u.outstanding + g, waiting := some (min (u.waiting.getD 0 + g) 64) } ∧
      ∀ n, u.grant g (some n) = { u with outstanding := u.outstanding + g, kept := min (u.kept + g) (64 - n) } := by
  simp only [IntakeUnit.grant, satAdd_eq_min, implies_true, and_self]

/-! ### The intake state -/

theorem State.checkIntake_run (h : s.intake.state = .run) : s.checkIntake =
    if s.freeBlocks ≤ s.intake.low then
      ({ s with intake := { s.intake with state := .stop } } : State).forcedStart
    else s := by
  rw [State.checkIntake, h]

theorem State.checkIntake_stop (h : s.intake.state = .stop) : s.checkIntake =
    if s.intake.high ≤ s.freeBlocks then
      ({ s with intake := { s.intake with state := .run } } : State).evalGrant
    else s := by
  rw [State.checkIntake, h]
  dsimp only
  by_cases reached : s.intake.high ≤ s.freeBlocks
  · rw [if_pos reached, if_pos reached, State.reopenIntake, if_pos ⟨h, reached⟩]
  · rw [if_neg reached, if_neg reached]

/-! ### Forced start -/

/-- R45: some job is READY or PRINTING. -/
def State.Busy (s : State) : Prop := ∃ k : Slot, (s.job k).state = .ready ∨ (s.job k).state = .printing

theorem State.active_iff (s : State) : s.active = true ↔ s.Busy := by
  simp only [State.active, List.any_eq_true, Vector.mem_toList_iff, Bool.or_eq_true, decide_eq_true_eq]
  constructor
  · rintro ⟨j, hj, hs⟩
    obtain ⟨i, hi, rfl⟩ := Vector.mem_iff_getElem.mp hj
    exact ⟨⟨i, hi⟩, hs⟩
  · rintro ⟨k, hs⟩
    exact ⟨s.job k, Vector.getElem_mem k.isLt, hs⟩

theorem State.forcedStart_of_busy (h : s.Busy) : s.forcedStart = s := if_pos (s.active_iff.mpr h)

theorem State.forcedStart_of_none (h : s.forcedChoice = none) : s.forcedStart = s := by
  rw [State.forcedStart, h]
  split <;> rfl

theorem State.forcedStart_of_some {i : Slot} (idle : ¬s.Busy) (h : s.forcedChoice = some i) :
    s.forcedStart = (s.setJob i { s.job i with forced := true }).makeReady i := by
  rw [State.forcedStart, if_neg (mt s.active_iff.mp idle), h]

theorem State.checkFallen_of {b : State} (hb : b.Busy) (hs : ¬s.Busy) (stop : s.intake.state = .stop) :
    s.checkFallen b = s.forcedStart :=
  if_pos ⟨b.active_iff.mpr hb, mt s.active_iff.mp hs, stop⟩

theorem State.checkFallen_of_not {b : State} (h : ¬b.Busy ∨ s.Busy ∨ s.intake.state = .run) : s.checkFallen b = s := by
  refine if_neg fun ⟨hb, hs, stop⟩ => ?_
  rcases h with h | h | h
  · exact h (b.active_iff.mp hb)
  · exact hs (s.active_iff.mpr h)
  · rw [h] at stop
    cases stop

/-- R45: a job that forced start can take. -/
def State.FitsForced (s : State) (i : Slot) : Prop := (s.job i).state = .filling ∧ 1 ≤ (s.job i).stored

theorem State.forcedChoice_none (h : ∀ i ∈ s.jobs.openList, ¬s.FitsForced i) : s.forcedChoice = none :=
  List.find?_eq_none.mpr fun i hi => by simpa [State.FitsForced] using h i hi

/-- R45: forced start takes the first fitting job of the open list. -/
theorem State.forcedChoice_some {older younger : List Slot} {i : Slot} (order : s.jobs.openList = older ++ i :: younger)
    (before : ∀ k ∈ older, ¬s.FitsForced k) (fits : s.FitsForced i) : s.forcedChoice = some i := by
  refine List.find?_eq_some_iff_append.mpr ⟨by simpa [State.FitsForced] using fits, older, younger, order, fun k hk => ?_⟩
  rw [Bool.not_eq_true', Bool.eq_false_iff]
  exact fun fit => before k hk (by simpa [State.FitsForced] using fit)

/-- R21: an ending writes no lane and leaves the time. -/
theorem State.endJob_lane (s : State) (i : Slot) (o : JobOutcome) (l : LaneId) :
    (s.endJob i o).lane l = s.lane l ∧ (s.endJob i o).time = s.time := by
  obtain ⟨-, lanes, -, time⟩ := (s.setJob i ((s.job i).ended o)).returnBlocks_frame ((s.job i).chain.map ChainEntry.block)
  exact ⟨congrArg (·[l]) lanes, time⟩

/-- R81: a completion, with the lane record of before the ending. -/
theorem State.complete_eq (s : State) (i : Slot) (l : LaneId) : s.complete i l =
    (((s.endJob i .completed).setLane l ((s.lane l).leave s.time)).dispatch).checkFallen s := by
  obtain ⟨lane, time⟩ := s.endJob_lane i .completed l
  rw [State.complete, lane, time]

/-- R83: a stop request applied. -/
theorem State.applyStop_of {l : LaneId} {h : Handle} {r : StopRequest} (hj : (s.lane l).job = some h)
    (hr : (s.job h.slot).stop = some r) :
    let t := (s.settleJob h.slot (some r) false).raiseHold h.slot (some r)
    s.applyStop l = ((t.setLane l ((t.lane l).leave t.time)).dispatch).checkFallen s := by
  unfold State.applyStop
  rw [hj]
  dsimp only
  rw [hr]

/-- Settles O30: the equations of a grant evaluation, of a check of the intake state, of forced start and of the check on a
fallen count; the last two parts are the definitions of the operations that make that check. -/
theorem grantsAndTheIntakeState : Obligations.GrantsAndTheIntakeState := by
  refine ⟨fun s => ⟨State.evalGrant_of_not, fun granted no => ?_, fun n granted flying => ?_⟩,
    fun s => ⟨fun run above => ?_, fun run below => ?_, fun stop below => ?_, fun stop reached => ?_⟩,
    fun s => ⟨State.forcedStart_of_busy, fun unfit => ?_, fun older younger i calm order before fits => ?_⟩,
    fun s before i l o => ⟨State.checkFallen_of, State.checkFallen_of_not, rfl, s.complete_eq i l⟩,
    fun s l => ⟨fun h r => State.applyStop_of, rfl, rfl, rfl⟩⟩
  · rw [State.evalGrant_of granted, State.NoCreditInFlight.creditInFlight no, (IntakeUnit.grant_eq _ _).1]
    rfl
  · have inFlight : s.link.creditInFlight = some n := by
      rw [LinkPort.creditInFlight, flying]
    rw [State.evalGrant_of granted, inFlight, (IntakeUnit.grant_eq _ _).2]
    rfl
  · exact (State.checkIntake_run run).trans (if_neg (Nat.not_le.mpr above))
  · exact (State.checkIntake_run run).trans (if_pos below)
  · exact (State.checkIntake_stop stop).trans (if_neg (Nat.not_le.mpr below))
  · exact (State.checkIntake_stop stop).trans (if_pos reached)
  · exact State.forcedStart_of_none (State.forcedChoice_none unfit)
  · exact State.forcedStart_of_some (fun ⟨k, hk⟩ => hk.elim (calm k).1 (calm k).2)
      (State.forcedChoice_some order before fits)

end Sys2Proof.Machine
end
